-- ==== Sys2Proof/Word.lean ====
section
/-! DEFINITION. The widths of the frame unit and the Reading record.
Spec: 00_scope.md §6.1 (widths, R9), 10_state.md R12 (the Reading). -/

namespace Sys2Proof

/-- A byte, `u8` (R9). -/
abbrev Byte := BitVec 8

/-- A 16-bit field of a frame, `u16` (R9). -/
abbrev U16 := BitVec 16

/-- The averaging engine's intermediate sum, `AVG_SUM_WIDTH` = 17 bits (R7, R115). -/
abbrev U17 := BitVec 17

/-- The command kind code at the ENC input, `KIND_WIDTH` = 3 bits (R7, R56). -/
abbrev KindCode := BitVec 3

/-- The 12 measurement fields of a Reading: fields 2 to 13 of R12, in its order. -/
inductive Measurement where
  | stdPm1
  | stdPm25
  | stdPm10
  | atmPm1
  | atmPm25
  | atmPm10
  | rawCount03
  | rawCount05
  | rawCount1
  | rawCount25
  | rawCount5
  | rawCount10
  deriving DecidableEq, Repr

/-- A Reading: the record of 17 fields of R12, in its order. -/
structure Reading where
  frameLength : U16
  stdPm1 : U16
  stdPm25 : U16
  stdPm10 : U16
  atmPm1 : U16
  atmPm25 : U16
  atmPm10 : U16
  rawCount03 : U16
  rawCount05 : U16
  rawCount1 : U16
  rawCount25 : U16
  rawCount5 : U16
  rawCount10 : U16
  version : Byte
  errorCode : Byte
  checksumValid : Bool
  isError : Bool
  deriving DecidableEq, Repr, Inhabited

/-- The measurement field of a Reading that a name of R12 stands for. -/
def Reading.measurement (r : Reading) : Measurement → U16
  | .stdPm1 => r.stdPm1
  | .stdPm25 => r.stdPm25
  | .stdPm10 => r.stdPm10
  | .atmPm1 => r.atmPm1
  | .atmPm25 => r.atmPm25
  | .atmPm10 => r.atmPm10
  | .rawCount03 => r.rawCount03
  | .rawCount05 => r.rawCount05
  | .rawCount1 => r.rawCount1
  | .rawCount25 => r.rawCount25
  | .rawCount5 => r.rawCount5
  | .rawCount10 => r.rawCount10

/-- A Reading with every numeric field 0 and the two flags as given. -/
def Reading.zeros (checksumValid isError : Bool) : Reading :=
  { frameLength := 0, stdPm1 := 0, stdPm25 := 0, stdPm10 := 0, atmPm1 := 0, atmPm25 := 0,
    atmPm10 := 0, rawCount03 := 0, rawCount05 := 0, rawCount1 := 0, rawCount25 := 0,
    rawCount5 := 0, rawCount10 := 0, version := 0, errorCode := 0,
    checksumValid := checksumValid, isError := isError }

end Sys2Proof
end

