-- ==== Sys2Proof/Config.lean ====
section
/-! DEFINITION. The constants the source fixes (00_scope.md R6), the parameters it leaves open
(R7), and the free values (93_implementation_defined.md U1, U2, U3). -/

namespace Sys2Proof

/-- `FRAME_SIZE`: bytes of one inbound frame (R6). -/
abbrev Config.frameSize : Nat := 32

/-- `MARKER0`: first byte of the start marker (R6). -/
abbrev Config.marker0 : Byte := 0x42

/-- `MARKER1`: second byte of the start marker (R6). -/
abbrev Config.marker1 : Byte := 0x4D

/-- `SUM_SPAN`: leading bytes of an inbound frame covered by its checksum (R6). -/
abbrev Config.sumSpan : Nat := 30

/-- `CMD_SUM_SPAN`: leading bytes of a command frame covered by its checksum (R6,
90_conflicts.md C2). -/
abbrev Config.cmdSumSpan : Nat := 5

/-- `BUF_CAP` (R7, D3): a natural number of at least 32, or unbounded.  A finite capacity is
written as the number of cells beyond 32, so that no value below 32 can be built. -/
inductive BufCap where
  | unbounded
  | atLeast32 (extra : Nat)
  deriving DecidableEq, Repr

/-- The build parameters of R7 that stay open: the PendingBuffer's capacity and whether the
averaging engine exists (`AVG_ENABLE`). -/
structure Build where
  bufCap : BufCap
  avgEnable : Bool
  deriving DecidableEq, Repr

/-- The defaults of 92_eei_decisions.md, "Open parameters in one place": `BUF_CAP` = 32, and
`AVG_ENABLE` = true for a model of the whole document. -/
def Build.default : Build := { bufCap := .atLeast32 0, avgEnable := true }

/-- FREE VALUE `ERR_FIELDS` (R7, R91, U1): the Reading whose fields other than `isError` the
`n`-th draw puts into the result of `DECODE.ERR`. -/
opaque Config.errFields : Nat → Reading

/-- FREE VALUE (R16, R160, U3): what the `n`-th draw leaves in `rd` after `RESET`. -/
opaque Config.rdAfterReset : Nat → Reading

/-- FREE VALUE (R133, R170, U2): `cmd_bytes` while `cmd_unknown` is 1. -/
opaque Config.unknownCmdBytes : Nat → BitVec 56

/-- FREE VALUE (R133, R170, U2): `cmd_expects_reply` while `cmd_unknown` is 1. -/
opaque Config.unknownExpectsReply : Nat → Bool

end Sys2Proof
end

