-- ==== Sys2Proof/Syntax.lean ====
section
/-! DEFINITION. The operations of the block: one constructor for each of the 18 rows of
spec/opcode_table.json (30_encoding.md R61, R69), in the table's order. -/

namespace Sys2Proof

/-- The five recognised command kinds, in the order of R55 (R56 allows this type in place of the
3-bit code). -/
inductive Kind where
  | requestData
  | makePassive
  | makeActive
  | sleep
  | wakeUp
  deriving DecidableEq, Repr

/-- The operations of R61. -/
inductive Instr where
  /-- `RESET` (R160). -/
  | reset
  /-- `RXFAIL` (R144). -/
  | rxfail
  /-- `PUSH(b)` (R71). -/
  | push (b : Byte)
  /-- `SYNC.WAIT` (R72). -/
  | syncWait
  /-- `SYNC.EXTRACT` (R73). -/
  | syncExtract
  /-- `SYNC.DISCARD` (R74). -/
  | syncDiscard
  /-- `DECODE(f)` (R92), called as a function on its own (R90). -/
  | decode (f : List Byte)
  /-- `DECODE.ERR(s)` (R91), called as a function on its own. -/
  | decodeErr (s : List Byte)
  /-- `AVG.BOTHERR` (R112): `combine` of two Readings, both in error. -/
  | avgBothErr (retained incoming : Reading)
  /-- `AVG.SNAP` (R113): `combine` of a retained Reading in error and a good one. -/
  | avgSnap (retained incoming : Reading)
  /-- `AVG.HOLD` (R114): `combine` of a good retained Reading and one in error. -/
  | avgHold (retained incoming : Reading)
  /-- `AVG.MEAN` (R115): `combine` of two good Readings. -/
  | avgMean (retained incoming : Reading)
  /-- `ENCODE.RequestData` (R128). -/
  | encodeRequestData
  /-- `ENCODE.MakePassive` (R129). -/
  | encodeMakePassive
  /-- `ENCODE.MakeActive` (R130). -/
  | encodeMakeActive
  /-- `ENCODE.Sleep` (R131). -/
  | encodeSleep
  /-- `ENCODE.WakeUp` (R132). -/
  | encodeWakeUp
  /-- `ENCODE.UNKNOWN` (R133), with the kind code that has no table entry. -/
  | encodeUnknown (kind : KindCode)
  deriving DecidableEq, Repr

end Sys2Proof
end

