-- ==== Sys2Proof/Decode.lean ====
section
/-! DEFINITION. The selectors that choose an operation (30_encoding.md R56 to R60), the byte-order
helpers they use (20_memory.md R31, 30_encoding.md R53), and the decoder and encoder of operation
words.

An OPERATION WORD is a list of bytes.  The low nibble of its first byte holds the selector bits
exactly as spec/opcode_table.json writes them; the high nibble says which of the table's formats
the selector belongs to, since the codes of different formats coincide (notes/assumptions/3.md,
DESIGN CHOICE).  The operands follow.

| high nibble | format | low nibble | operand bytes |
|---|---|---|---|
| 0 | `PORT` (R60) | `rst, rx_fail, rx_xfer, cmd_req` | `rx_data`, then `cmd_kind` |
| 1 | `SYNCSEL` (R57) | `0, 0, g, m` | none |
| 2 | `AVGSEL` (R58) | `0, 0, retained.isError, incoming.isError` | two Readings, 29 bytes each |
| 3 | `DATA32` (R59) | 0 | the decoder's input, of any length |
| 4 | `CMD7` (R56) | `0`, kind code | none | -/

namespace Sys2Proof

/-! ### Byte order -/

/-- `hi8(v) = v[15:8]` (R53). -/
def hi8 (v : U16) : Byte := v.extractLsb' 8 8

/-- `lo8(v) = v[7:0]` (R53). -/
def lo8 (v : U16) : Byte := v.extractLsb' 0 8

/-- `be16(s, k)`: the bytes at offsets `k` and `k + 1`, the one at the lower offset the more
significant (R31, R53).  No rule applies it past the end of `s`. -/
def be16 (s : List Byte) (k : Nat) : U16 := s.getD k 0 ++ s.getD (k + 1) 0

/-- The `n` bytes of a number, the most significant first: byte offset 0 of a frame is the most
significant byte of its bit-vector view (00_scope.md §6.2). -/
def bytesBE (n w : Nat) : List Byte :=
  (List.range n).map fun k => BitVec.ofNat 8 (w / 256 ^ (n - 1 - k))

/-! ### Selectors -/

/-- The exact, ordered marker test: 0x42 at offset 0 and 0x4D at offset 1 (R75, R57). -/
def hasMarker (s : List Byte) : Bool :=
  s[0]? == some Config.marker0 && s[1]? == some Config.marker1

/-- The synchronizer selector: the bits g (32 or more bytes are buffered) and m (the first two are
the marker), g first (R57). -/
def syncSelector (buf : List Byte) : BitVec 2 :=
  BitVec.ofBool (decide (Config.frameSize ≤ buf.length)) ++ BitVec.ofBool (hasMarker buf)

/-- The averaging selector: the bits `retained.isError` and `incoming.isError`, in that order
(R58). -/
def avgSelector (retained incoming : Reading) : BitVec 2 :=
  BitVec.ofBool retained.isError ++ BitVec.ofBool incoming.isError

/-- The decoder selector: true selects `DECODE`, false selects `DECODE.ERR` (R59). -/
def decoderSelects (s : List Byte) : Bool :=
  s.length == Config.frameSize && hasMarker s

/-- The kind code of a recognised kind (R56). -/
def Kind.code : Kind → KindCode
  | .requestData => 0
  | .makePassive => 1
  | .makeActive => 2
  | .sleep => 3
  | .wakeUp => 4

/-! ### Operand bytes of the averaging rows -/

/-- A Reading as 29 operand bytes: the fields of R12 in order, 16-bit fields big-endian, and one
byte with the flags `checksumValid`, `isError` in its two low bits (notes/assumptions/3.md). -/
def Reading.toBytes (r : Reading) : List Byte :=
  [hi8 r.frameLength, lo8 r.frameLength, hi8 r.stdPm1, lo8 r.stdPm1, hi8 r.stdPm25, lo8 r.stdPm25,
    hi8 r.stdPm10, lo8 r.stdPm10, hi8 r.atmPm1, lo8 r.atmPm1, hi8 r.atmPm25, lo8 r.atmPm25,
    hi8 r.atmPm10, lo8 r.atmPm10, hi8 r.rawCount03, lo8 r.rawCount03, hi8 r.rawCount05,
    lo8 r.rawCount05, hi8 r.rawCount1, lo8 r.rawCount1, hi8 r.rawCount25, lo8 r.rawCount25,
    hi8 r.rawCount5, lo8 r.rawCount5, hi8 r.rawCount10, lo8 r.rawCount10, r.version, r.errorCode,
    0#6 ++ BitVec.ofBool r.checksumValid ++ BitVec.ofBool r.isError]

/-- The Reading of 29 operand bytes; none for another length, or where one of the six unused bits
of the flag byte is set. -/
def Reading.ofBytes (s : List Byte) : Option Reading :=
  if s.length = 29 ∧ (s.getD 28 0).extractLsb' 2 6 = 0 then
    some
      { frameLength := be16 s 0, stdPm1 := be16 s 2, stdPm25 := be16 s 4, stdPm10 := be16 s 6,
        atmPm1 := be16 s 8, atmPm25 := be16 s 10, atmPm10 := be16 s 12, rawCount03 := be16 s 14,
        rawCount05 := be16 s 16, rawCount1 := be16 s 18, rawCount25 := be16 s 20,
        rawCount5 := be16 s 22, rawCount10 := be16 s 24, version := s.getD 26 0,
        errorCode := s.getD 27 0, checksumValid := (s.getD 28 0).getLsbD 1,
        isError := (s.getD 28 0).getLsbD 0 }
  else none

/-! ### Decoder -/

/-- Why a list of bytes is no operation word. -/
inductive Reject where
  /-- no byte at all -/
  | emptyWord
  /-- the format nibble is none of the table's formats -/
  | unknownFormat
  /-- the operand bytes are too few or too many -/
  | wrongLength
  /-- a bit outside every field of the word is set -/
  | reservedBits
  /-- a `PORT` word without a strobe selects nothing: `SYNC` steps are not selected by a port (R60) -/
  | noEvent
  /-- the averaging selector is not the one its two operands give (R58) -/
  | wrongSelector
  deriving DecidableEq, Repr

/-- The operation a kind code selects (R56, R62). -/
def decodeKind (k : KindCode) : Instr :=
  match k.toNat with
  | 0 => .encodeRequestData
  | 1 => .encodeMakePassive
  | 2 => .encodeMakeActive
  | 3 => .encodeSleep
  | 4 => .encodeWakeUp
  | _ => .encodeUnknown k

/-- The operation the port strobes select first: `rst` alone where it is 1, otherwise `rx_fail`,
`rx_xfer`, `cmd_req` in this order (R60; any order would do, R150, notes/assumptions/4.md). -/
def decodePort (strobes : BitVec 4) (data : Byte) (kind : KindCode) : Except Reject Instr :=
  if strobes.getLsbD 3 then .ok .reset
  else if strobes.getLsbD 2 then .ok .rxfail
  else if strobes.getLsbD 1 then .ok (.push data)
  else if strobes.getLsbD 0 then .ok (decodeKind kind)
  else .error .noEvent

/-- The operation the synchronizer selector selects: `0x`, `11` or `10` (R57). -/
def decodeSync (sel : BitVec 2) : Instr :=
  if sel.getLsbD 1 then
    if sel.getLsbD 0 then .syncExtract else .syncDiscard
  else .syncWait

/-- The operation the averaging selector selects (R58). -/
def decodeAvg (sel : BitVec 2) (retained incoming : Reading) : Instr :=
  if sel.getLsbD 1 then
    if sel.getLsbD 0 then .avgBothErr retained incoming else .avgSnap retained incoming
  else
    if sel.getLsbD 0 then .avgHold retained incoming else .avgMean retained incoming

/-- The operation the decoder's input selects (R59). -/
def decodeData (s : List Byte) : Instr :=
  if decoderSelects s then .decode s else .decodeErr s

/-- The averaging row of a selector and 58 operand bytes. -/
def decodeAvgWord (sel : BitVec 4) (operands : List Byte) : Except Reject Instr :=
  match Reading.ofBytes (operands.take 29), Reading.ofBytes (operands.drop 29) with
  | some retained, some incoming =>
    if sel = 0#2 ++ avgSelector retained incoming then
      .ok (decodeAvg (avgSelector retained incoming) retained incoming)
    else .error .wrongSelector
  | _, _ => if operands.length = 58 then .error .reservedBits else .error .wrongLength

/-- Decoding: total on any bytes. -/
def decode (word : List Byte) : Except Reject Instr :=
  match word with
  | [] => .error .emptyWord
  | first :: operands =>
    let sel : BitVec 4 := first.extractLsb' 0 4
    match (first.extractLsb' 4 4).toNat with
    | 0 =>
      match operands with
      | [data, kind] =>
        if kind.extractLsb' 3 5 = 0 then decodePort sel data (kind.extractLsb' 0 3)
        else .error .reservedBits
      | _ => .error .wrongLength
    | 1 =>
      if operands ≠ [] then .error .wrongLength
      else if sel.extractLsb' 2 2 = 0 then .ok (decodeSync (sel.extractLsb' 0 2))
      else .error .reservedBits
    | 2 => decodeAvgWord sel operands
    | 3 => if sel = 0 then .ok (decodeData operands) else .error .reservedBits
    | 4 =>
      if operands ≠ [] then .error .wrongLength
      else if sel.getLsbD 3 then .error .reservedBits
      else .ok (decodeKind (sel.extractLsb' 0 3))
    | _ => .error .unknownFormat

/-! ### Encoder -/

/-- The first byte of a word: format nibble and selector nibble. -/
def firstByte (format sel : BitVec 4) : Byte := format ++ sel

/-- A `PORT` word: the strobes, `rx_data` and `cmd_kind` (R60). -/
def portWord (strobes : BitVec 4) (data : Byte) (kind : KindCode) : List Byte :=
  [firstByte 0 strobes, data, 0#5 ++ kind]

/-- A `SYNCSEL` word: the two bits of R57. -/
def syncWord (sel : BitVec 2) : List Byte := [firstByte 1 (0#2 ++ sel)]

/-- An `AVGSEL` word: the two bits of R58 and the two Readings. -/
def avgWord (retained incoming : Reading) : List Byte :=
  firstByte 2 (0#2 ++ avgSelector retained incoming) :: (retained.toBytes ++ incoming.toBytes)

/-- A `DATA32` word: the decoder's input. -/
def dataWord (s : List Byte) : List Byte := firstByte 3 0 :: s

/-- A `CMD7` word: the kind code of R56. -/
def kindWord (k : KindCode) : List Byte := [firstByte 4 (0#1 ++ k)]

/-- Encoding: the operation word of a well-formed operation, its selector bits as the table's
"encoding" column writes them. -/
def encode : Instr → List Byte
  | .reset => portWord 0b1000 0 0
  | .rxfail => portWord 0b0100 0 0
  | .push b => portWord 0b0010 b 0
  | .syncWait => syncWord 0b00
  | .syncExtract => syncWord 0b11
  | .syncDiscard => syncWord 0b10
  | .decode f => dataWord f
  | .decodeErr s => dataWord s
  | .avgBothErr r i => avgWord r i
  | .avgSnap r i => avgWord r i
  | .avgHold r i => avgWord r i
  | .avgMean r i => avgWord r i
  | .encodeRequestData => kindWord Kind.requestData.code
  | .encodeMakePassive => kindWord Kind.makePassive.code
  | .encodeMakeActive => kindWord Kind.makeActive.code
  | .encodeSleep => kindWord Kind.sleep.code
  | .encodeWakeUp => kindWord Kind.wakeUp.code
  | .encodeUnknown k => kindWord k

/-! ### Words as the opcode table numbers them -/

/-- An 8-bit word of the table.  The rows narrower than a byte all have 8 bits in whole bytes, and their
codes coincide: the word is read as the first row of the table that it writes out with every bit that
does not matter 0, the `AVG` rows apart, whose operands have no bits; a word that no row writes out so
is read as `PORT` strobes (notes/assumptions/15.md). -/
def narrowWord (w : Nat) : Option (List Byte) :=
  match w with
  | 0 => some (syncWord 0b00)
  | 1 => some (kindWord 0b001)
  | 2 => some (portWord 0b0010 0 0)
  | 3 => some (syncWord 0b11)
  | 4 => some (portWord 0b0100 0 0)
  | 5 => some (kindWord 0b101)
  | 6 => some (kindWord 0b110)
  | 7 => some (kindWord 0b111)
  | w => if w < 16 then some (portWord (BitVec.ofNat 4 w) 0 0) else none

/-- The operation the decoder reads from `nbits` bits `w` numbered as spec/opcode_table.json numbers
them.  The table's word does not say which format it belongs to, so its width does: 256 bits are a
`DATA32` frame, byte 0 the most significant (R51), 4 bits `PORT` strobes, 3 bits a kind code, 2 bits a
synchronizer selector, 8 bits a word of `narrowWord`. -/
def decodeTableWord (nbits w : Nat) : Option Instr :=
  let word : Option (List Byte) :=
    match nbits with
    | 256 => some (dataWord (bytesBE 32 w))
    | 4 => if w < 16 then some (portWord (BitVec.ofNat 4 w) 0 0) else none
    | 3 => if w < 8 then some (kindWord (BitVec.ofNat 3 w)) else none
    | 2 => if w < 4 then some (syncWord (BitVec.ofNat 2 w)) else none
    | 8 => narrowWord w
    | _ => none
  word.bind fun bytes => (decode bytes).toOption

end Sys2Proof
end

