-- ==== Sys2Proof/Machine/State.lean ====
section
/-! DEFINITION. The state of the frame unit (10_state.md R11 to R18, R25), the environment's
pending requests (R10, R22), the results of the function units (R15), the ways a step can stop, and
the state after reset. -/

namespace Sys2Proof.Machine

/-- The inbound ports in one cycle (R22): the strobes of R60 and their operands. -/
structure PortIn where
  /-- `rst` -/
  rst : Bool
  /-- `rx_fail` -/
  rxFail : Bool
  /-- `rx_valid`: the byte source offers `rxData` -/
  rxValid : Bool
  /-- `rx_data` -/
  rxData : Byte
  /-- `cmd_req` -/
  cmdReq : Bool
  /-- `cmd_kind` -/
  cmdKind : KindCode
  deriving DecidableEq, Repr

/-- A cycle in which no environment agent does anything: the synchronizer has its turn (R60). -/
def PortIn.idle : PortIn :=
  { rst := false, rxFail := false, rxValid := false, rxData := 0, cmdReq := false, cmdKind := 0 }

/-- What the environment can ask for: the port events of one cycle (R60), or one of the two pure
functions of the block called on its own (R90, R121). -/
inductive Request where
  /-- the inbound ports of one cycle -/
  | cycle (ports : PortIn)
  /-- the decoder called on any bytes (R90, D8) -/
  | decode (s : List Byte)
  /-- `combine` called on any two Readings (R110, R121) -/
  | combine (retained incoming : Reading)
  deriving DecidableEq, Repr

/-- The result of `ENCODE`: "exactly one of a 7-byte sequence or the failure" (R125), with the
expects-reply flag beside the bytes (R134). -/
inductive EncResult where
  | frame (bytes : List Byte) (expectsReply : Bool)
  | unrecognizedCommand
  deriving DecidableEq, Repr

/-- The state the spec gives the block: the table of R25. -/
structure Block where
  /-- The PendingBuffer, oldest byte first (R11). -/
  buf : List Byte
  /-- Ghost: bytes removed from the head of `buf` since reset (R13). -/
  pos : Nat
  /-- Ghost: every Reading emitted since reset, in order (R16). -/
  out : List Reading
  /-- The output register (R16); it means nothing while `rdSeen` is false. -/
  rd : Reading
  /-- Whether anything was emitted since reset (R16). -/
  rdSeen : Bool
  /-- The standing request to close the session (R17). -/
  closeReq : Bool
  /-- The averaging engine's retained Reading (R18).  In a build without the engine it does not
  exist: no operation reads or writes it there (notes/assumptions/11.md). -/
  retained : Reading
  /-- Whether the latest averaging update was the both-error case (R18, R119). -/
  avgFail : Bool
  deriving DecidableEq, Repr

/-- The state of the model: the block's state and the model's own fields, which are no state of the
block (R24): the build parameters, the schedule, the results of the pure functions, the counter of
free values. -/
structure State extends Block where
  /-- The open parameters of R7; no step changes them (notes/assumptions/6.md). -/
  build : Build
  /-- The environment's pending requests, oldest first (notes/assumptions/1.md). -/
  sched : List Request
  /-- The result of the last call of the decoder on its own (R90; notes/assumptions/9.md). -/
  decResult : Option Reading
  /-- The result of the last call of `combine` on its own: the Reading and the both-error report
  (R112 to R119). -/
  avgResult : Option (Reading × Bool)
  /-- The result of the last `ENCODE` request (R125). -/
  encResult : Option EncResult
  /-- How many free values have been drawn (notes/assumptions/8.md). -/
  draws : Nat
  deriving DecidableEq, Repr

/-- The block has no faults: no anomaly stops anything (60_exceptions.md R146), so no step can end
in one (notes/assumptions/17.md). -/
inductive Fault
  deriving DecidableEq, Repr

/-- Why an operation is no step in the state it is tried in. -/
inductive Refusal where
  /-- Raised by exec's arm of an instruction without a meaning.  No arm raises it.  Safe. -/
  | notModelled (mnemonic : String)
  /-- Raised by `PUSH` while the buffer is full: "When not enabled the byte source has no `PUSH`
  step" (R71, R37, U7).  `step` never raises it: the byte stays with the byte source.  Safe. -/
  | notEnabled
  /-- Raised by an operation whose selector does not select it: `SYNC.*` (R57), `DECODE` and
  `DECODE.ERR` (R59), `AVG.*` (R58), `ENCODE.UNKNOWN` (R56).  `step` never raises it.  Safe. -/
  | notSelected
  /-- Raised by `AVG.*` in a build without the averaging engine: it exists "only if `AVG_ENABLE`"
  (R4, R58).  Safe. -/
  | unitAbsent
  /-- Raised by `step` on a fetched word that is no operation word.  No fetched word is one.  Safe. -/
  | undecodable
  deriving DecidableEq, Repr

/-- The reset value of `retained` (R25, D19). -/
def retainedReset : Reading := Reading.zeros false true

/-- The block right after reset (R25).  The spec leaves `rd` unspecified; all zeros is a DESIGN
CHOICE (notes/assumptions/7.md) that no statement rests on. -/
def Block.reset : Block :=
  { buf := [], pos := 0, out := [], rd := Reading.zeros false false, rdSeen := false,
    closeReq := false, retained := retainedReset, avgFail := false }

/-- The state right after reset in a given build, with nothing pending. -/
def State.resetFor (build : Build) : State :=
  { toBlock := Block.reset, build := build, sched := [], decResult := none, avgResult := none,
    encResult := none, draws := 0 }

/-- The state right after reset, in the default build of 92_eei_decisions.md. -/
def State.reset : State := State.resetFor Build.default

end Sys2Proof.Machine
end

