-- ==== Sys2Proof/Machine/Ops.lean ====
section
/-! DEFINITION. The named operations on the state that every meaning is written over: the
primitives of 00_scope.md §6.3.  Nothing here transfers control: the block takes no exceptions and
has nothing to return from (60_exceptions.md R146, R147); an anomaly only sets its flag. -/

namespace Sys2Proof.Machine

/-- Whether one more byte fits: the buffer holds fewer than `BUF_CAP` bytes (R37). -/
def capAdmits (cap : BufCap) (n : Nat) : Bool :=
  match cap with
  | .unbounded => true
  | .atLeast32 extra => decide (n < Config.frameSize + extra)

/-- `rx_ready` (R22). -/
def State.rxReady (s : State) : Bool := capAdmits s.build.bufCap s.buf.length

/-- The form of the buffer: its length is at most `BUF_CAP` (R11). -/
def State.bufFits (s : State) : Bool :=
  match s.build.bufCap with
  | .unbounded => true
  | .atLeast32 extra => decide (s.buf.length ≤ Config.frameSize + extra)

/-- `MemRead(addr, n)`: `n` bytes of the buffer at an offset from its head, with no side effect. -/
def State.memRead (s : State) (addr n : Nat) : List Byte := (s.buf.drop addr).take n

/-- `BufPush(b)`: append one byte at the tail. -/
def State.bufPush (s : State) (b : Byte) : State := { s with buf := s.buf ++ [b] }

/-- `BufPop(n)` with the ghost: remove `n` bytes from the head and add `n` to `pos` (R13). -/
def State.bufPop (s : State) (n : Nat) : State :=
  { s with buf := s.buf.drop n, pos := s.pos + n }

/-- `Emit(r)`: append the Reading to `out` and load it into `rd` (R16). -/
def State.emit (s : State) (r : Reading) : State :=
  { s with out := s.out ++ [r], rd := r, rdSeen := true }

/-- `flag TransportFailure`: the standing request to close (R17, R144). -/
def State.requestClose (s : State) : State := { s with closeReq := true }

/-- The whole reset (R160): the table of R25, with `rd` left to a free value (U3).  The build, the
pending requests and the draw counter belong to the model, not to the block, and stay. -/
def State.resetBlock (s : State) : State :=
  { State.resetFor s.build with
    rd := Config.rdAfterReset s.draws, sched := s.sched, draws := s.draws + 1 }

end Sys2Proof.Machine
end

