-- ==== Sys2Proof/Machine/Operands.lean ====
section
/-! DEFINITION. The operand forms: where the fields of an inbound frame lie (30_encoding.md R51),
and the candidate frame at the head of the buffer (40_sync.md R73). -/

namespace Sys2Proof.Machine

/-- The offset of a measurement field in an inbound frame (R51, R94). -/
def measurementOffset : Measurement → Nat
  | .stdPm1 => 4
  | .stdPm25 => 6
  | .stdPm10 => 8
  | .atmPm1 => 10
  | .atmPm25 => 12
  | .atmPm10 => 14
  | .rawCount03 => 16
  | .rawCount05 => 18
  | .rawCount1 => 20
  | .rawCount25 => 22
  | .rawCount5 => 24
  | .rawCount10 => 26

/-- An 8-bit field: the byte itself (R54). -/
def byteField (f : List Byte) (k : Nat) : Byte := f.getD k 0

/-- The candidate frame: the first 32 buffered bytes (R73). -/
def State.candidate (s : State) : List Byte := s.memRead 0 Config.frameSize

end Sys2Proof.Machine
end

