-- ==== Sys2Proof/Machine/Flags.lean ====
section
/-! DEFINITION. The flags of the block (10_state.md R15) and the anomalies they record
(60_exceptions.md R140). -/

namespace Sys2Proof.Machine

/-- `sum8(s, i, j)`: the exact sum of the bytes at offsets `i` to `j - 1`, each zero-extended
(00_scope.md §6.2). -/
def sum8 (s : List Byte) (i j : Nat) : Nat :=
  (((s.drop i).take (j - i)).map BitVec.toNat).sum

/-- A byte sum in the 16-bit accumulator `ACC_WIDTH` (R96, R127). -/
def checksum16 (s : List Byte) (span : Nat) : U16 := BitVec.ofNat 16 (sum8 s 0 span)

/-- `checksumValid`: the byte sum of offsets 0 to 29 equals the big-endian value at offsets 30 and
31 (R97). -/
def frameChecksumValid (f : List Byte) : Bool := checksum16 f Config.sumSpan == be16 f 30

/-- `avgFail` after an update: the both-error case (R119). -/
def updateFailed (retained incoming : Reading) : Bool := retained.isError && incoming.isError

/-- `cmdUnknown` of an `ENCODE` result (R15, R133). -/
def EncResult.cmdUnknown : EncResult → Bool
  | .frame _ _ => false
  | .unrecognizedCommand => true

/-- The four anomaly classes of R140.  They have names only, no codes (D26). -/
inductive Anomaly where
  | structuralError
  | checksumMismatch
  | unrecognizedCommand
  | transportFailure
  deriving DecidableEq, Repr

/-- The anomaly a checksum flag records (R140). -/
def checksumAnomaly (checksumValid : Bool) : Option Anomaly :=
  match checksumValid with
  | true => none
  | false => some .checksumMismatch

/-- The anomaly a Reading's two flags record (R99): `isError` speaks first, and the checksum flag
means nothing beside it. -/
def readingAnomaly (r : Reading) : Option Anomaly :=
  match r.isError with
  | true => some .structuralError
  | false => checksumAnomaly r.checksumValid

/-- The anomaly an operation raises in a state, at most one (R140, R148). -/
def raised (i : Instr) (s : State) : Option Anomaly :=
  match i with
  | .reset => none
  | .rxfail => some .transportFailure
  | .push _ => none
  | .syncWait => none
  | .syncExtract => checksumAnomaly (frameChecksumValid s.candidate)
  | .syncDiscard => none
  | .decode f => checksumAnomaly (frameChecksumValid f)
  | .decodeErr _ => some .structuralError
  | .avgBothErr _ _ => none
  | .avgSnap _ _ => none
  | .avgHold _ _ => none
  | .avgMean _ _ => none
  | .encodeRequestData => none
  | .encodeMakePassive => none
  | .encodeMakeActive => none
  | .encodeSleep => none
  | .encodeWakeUp => none
  | .encodeUnknown _ => some .unrecognizedCommand

end Sys2Proof.Machine
end

