-- ==== Sys2Proof/Machine/Encoder.lean ====
section
/-! DEFINITION. The command encoder: the Command table (30_encoding.md R55) and `ENCODE`
(43_encode.md). -/

namespace Sys2Proof.Machine

/-- An entry of the Command table (R19). -/
structure Command where
  opcode : Byte
  operand : U16
  expectsReply : Bool
  deriving DecidableEq, Repr

/-- The Command table (R55). -/
def commandTable : Kind → Command
  | .requestData => { opcode := 0xE2, operand := 0x0000, expectsReply := true }
  | .makePassive => { opcode := 0xE1, operand := 0x0000, expectsReply := false }
  | .makeActive => { opcode := 0xE1, operand := 0x0001, expectsReply := false }
  | .sleep => { opcode := 0xE4, operand := 0x0000, expectsReply := false }
  | .wakeUp => { opcode := 0xE4, operand := 0x0001, expectsReply := false }

/-- `EncodeFrame(opcode, operand)` (R126): marker, opcode, operand and the bytewise 16-bit sum of
those five bytes (R127). -/
def encodeFrame (opcode : Byte) (operand : U16) : List Byte :=
  let head := [Config.marker0, Config.marker1, opcode, hi8 operand, lo8 operand]
  let ck := checksum16 head Config.cmdSumSpan
  head ++ [hi8 ck, lo8 ck]

/-- `ENCODE` of a recognised kind (R125, R134). -/
def encodeKind (k : Kind) : EncResult :=
  .frame (encodeFrame (commandTable k).opcode (commandTable k).operand) (commandTable k).expectsReply

/-- The encoder answers a request; no state of the block changes (R135). -/
def State.answerEncoder (s : State) (r : EncResult) : State := { s with encResult := some r }

/-- `ENCODE.RequestData` (R128). -/
def execEncodeRequestData (s : State) : Host.Outcome State Fault Refusal :=
  .next (s.answerEncoder (encodeKind .requestData))

/-- `ENCODE.MakePassive` (R129). -/
def execEncodeMakePassive (s : State) : Host.Outcome State Fault Refusal :=
  .next (s.answerEncoder (encodeKind .makePassive))

/-- `ENCODE.MakeActive` (R130). -/
def execEncodeMakeActive (s : State) : Host.Outcome State Fault Refusal :=
  .next (s.answerEncoder (encodeKind .makeActive))

/-- `ENCODE.Sleep` (R131). -/
def execEncodeSleep (s : State) : Host.Outcome State Fault Refusal :=
  .next (s.answerEncoder (encodeKind .sleep))

/-- `ENCODE.WakeUp` (R132). -/
def execEncodeWakeUp (s : State) : Host.Outcome State Fault Refusal :=
  .next (s.answerEncoder (encodeKind .wakeUp))

/-- `ENCODE.UNKNOWN` (R133), for the kind codes 5, 6, 7 without a table entry (R62): the error
alone, no bytes.  The two other command outputs get a fresh free value (U2). -/
def execEncodeUnknown (kind : KindCode) (s : State) : Host.Outcome State Fault Refusal :=
  if 5 ≤ kind.toNat then
    .next { s with encResult := some .unrecognizedCommand, draws := s.draws + 1 }
  else .refused .notSelected

end Sys2Proof.Machine
end

