-- ==== Sys2Proof/Machine/Port.lean ====
section
/-! DEFINITION. The operations the port strobes select: `RESET` (70_reset_and_hazards.md R160),
`RXFAIL` (60_exceptions.md R144), `PUSH` (40_sync.md R71). -/

namespace Sys2Proof.Machine

/-- `RESET` (R160). -/
def execReset (s : State) : Host.Outcome State Fault Refusal := .next s.resetBlock

/-- `RXFAIL` (R144): `closeReq <- 1`, nothing else. -/
def execRxfail (s : State) : Host.Outcome State Fault Refusal := .next s.requestClose

/-- `PUSH(b)` (R71): append one byte; there is no such step while the buffer is full (R37). -/
def execPush (b : Byte) (s : State) : Host.Outcome State Fault Refusal :=
  if s.rxReady then .next (s.bufPush b) else .refused .notEnabled

end Sys2Proof.Machine
end

