-- ==== Sys2Proof/Machine/Averaging.lean ====
section
/-! DEFINITION. The averaging engine (42_averaging.md), present only if `AVG_ENABLE`. -/

namespace Sys2Proof.Machine

/-- The shape of all four cases of `combine` (R110, R116, R117): `f` gives each of the 12
measurement fields from the two inputs; `frameLength`, `version`, `errorCode`, `checksumValid` and
`isError` are those of the incoming Reading. -/
def combineWith (f : U16 → U16 → U16) (retained incoming : Reading) : Reading :=
  { incoming with
    stdPm1 := f retained.stdPm1 incoming.stdPm1
    stdPm25 := f retained.stdPm25 incoming.stdPm25
    stdPm10 := f retained.stdPm10 incoming.stdPm10
    atmPm1 := f retained.atmPm1 incoming.atmPm1
    atmPm25 := f retained.atmPm25 incoming.atmPm25
    atmPm10 := f retained.atmPm10 incoming.atmPm10
    rawCount03 := f retained.rawCount03 incoming.rawCount03
    rawCount05 := f retained.rawCount05 incoming.rawCount05
    rawCount1 := f retained.rawCount1 incoming.rawCount1
    rawCount25 := f retained.rawCount25 incoming.rawCount25
    rawCount5 := f retained.rawCount5 incoming.rawCount5
    rawCount10 := f retained.rawCount10 incoming.rawCount10 }

/-- The mean of two fields: the exact 17-bit sum, halved by dropping its lowest bit (R115). -/
def mean16 (a b : U16) : U16 :=
  let s : U17 := a.zeroExtend 17 + b.zeroExtend 17
  s.extractLsb' 1 16

/-- `AVG.BOTHERR` (R112): the retained fields. -/
def combineBothErr (retained incoming : Reading) : Reading :=
  combineWith (fun old _ => old) retained incoming

/-- `AVG.SNAP` (R113): the incoming fields. -/
def combineSnap (retained incoming : Reading) : Reading :=
  combineWith (fun _ new => new) retained incoming

/-- `AVG.HOLD` (R114): the retained fields. -/
def combineHold (retained incoming : Reading) : Reading :=
  combineWith (fun old _ => old) retained incoming

/-- `AVG.MEAN` (R115): the means. -/
def combineMean (retained incoming : Reading) : Reading := combineWith mean16 retained incoming

/-- `combine` (R110): the case is chosen by the two error flags (R58). -/
def combine (retained incoming : Reading) : Reading :=
  match retained.isError, incoming.isError with
  | true, true => combineBothErr retained incoming
  | true, false => combineSnap retained incoming
  | false, true => combineHold retained incoming
  | false, false => combineMean retained incoming

/-- `AvgUpdate` inside `SYNC.EXTRACT` (R111, R73): only if `AVG_ENABLE`. -/
def State.average (s : State) (r : Reading) : State :=
  { s with
    retained := if s.build.avgEnable then combine s.retained r else s.retained
    avgFail := if s.build.avgEnable then updateFailed s.retained r else s.avgFail }

/-- `combine` called on its own, by the row that the two error flags select (R58, R121): its result
and the both-error report (R119).  No state of the block changes: `retained` and `avgFail` are
"written only inside `SYNC.EXTRACT`" (R18). -/
def answerAverage (selector : BitVec 2) (result : Reading) (retained incoming : Reading)
    (s : State) : Host.Outcome State Fault Refusal :=
  if !s.build.avgEnable then .refused .unitAbsent
  else if avgSelector retained incoming = selector then
    .next { s with avgResult := some (result, updateFailed retained incoming) }
  else .refused .notSelected

/-- `AVG.BOTHERR` (R112). -/
def execAvgBothErr (retained incoming : Reading) (s : State) : Host.Outcome State Fault Refusal :=
  answerAverage 0b11 (combineBothErr retained incoming) retained incoming s

/-- `AVG.SNAP` (R113). -/
def execAvgSnap (retained incoming : Reading) (s : State) : Host.Outcome State Fault Refusal :=
  answerAverage 0b10 (combineSnap retained incoming) retained incoming s

/-- `AVG.HOLD` (R114). -/
def execAvgHold (retained incoming : Reading) (s : State) : Host.Outcome State Fault Refusal :=
  answerAverage 0b01 (combineHold retained incoming) retained incoming s

/-- `AVG.MEAN` (R115). -/
def execAvgMean (retained incoming : Reading) (s : State) : Host.Outcome State Fault Refusal :=
  answerAverage 0b00 (combineMean retained incoming) retained incoming s

end Sys2Proof.Machine
end

