-- ==== Sys2Proof/Machine/Decoder.lean ====
section
/-! DEFINITION. The frame decoder: `DECODE` and `DECODE.ERR` (41_decode.md). -/

namespace Sys2Proof.Machine

/-- `DECODE(f)`: the pseudocode of R92. -/
def decodeFrame (f : List Byte) : Reading :=
  { frameLength := be16 f 2
    stdPm1 := be16 f 4
    stdPm25 := be16 f 6
    stdPm10 := be16 f 8
    atmPm1 := be16 f 10
    atmPm25 := be16 f 12
    atmPm10 := be16 f 14
    rawCount03 := be16 f 16
    rawCount05 := be16 f 18
    rawCount1 := be16 f 20
    rawCount25 := be16 f 22
    rawCount5 := be16 f 24
    rawCount10 := be16 f 26
    version := byteField f 28
    errorCode := byteField f 29
    checksumValid := frameChecksumValid f
    isError := false }

/-- `DECODE.ERR`: `isError` is 1 and every other field is the given draw of `ERR_FIELDS` (R91). -/
def errorReading (draw : Nat) : Reading := { Config.errFields draw with isError := true }

/-- The decoder called on its own answers `r`; no state of the block changes (R90). -/
def State.answerDecoder (s : State) (r : Reading) : State := { s with decResult := some r }

/-- `DECODE` as a function call (R90, R92), on the inputs that select it (R59). -/
def execDecode (f : List Byte) (s : State) : Host.Outcome State Fault Refusal :=
  if decoderSelects f then .next (s.answerDecoder (decodeFrame f)) else .refused .notSelected

/-- `DECODE.ERR` as a function call (R91), on every other input (R59).  It draws a free value. -/
def execDecodeErr (input : List Byte) (s : State) : Host.Outcome State Fault Refusal :=
  if decoderSelects input then .refused .notSelected
  else .next { s with decResult := some (errorReading s.draws), draws := s.draws + 1 }

end Sys2Proof.Machine
end

