-- ==== Sys2Proof/Machine/Synchronizer.lean ====
section
/-! DEFINITION. The frame synchronizer: `SYNC.WAIT`, `SYNC.EXTRACT`, `SYNC.DISCARD`
(40_sync.md). -/

namespace Sys2Proof.Machine

/-- The three outcomes of a SYNC step (R70). -/
inductive SyncOutcome where
  | wait
  | extract
  | discard
  deriving DecidableEq, Repr

/-- `SyncOutcome(buf)`: the length test first, the marker test second (R75). -/
def syncOutcome (buf : List Byte) : SyncOutcome :=
  if buf.length < Config.frameSize then .wait
  else if hasMarker buf then .extract
  else .discard

/-- `SYNC.EXTRACT` as one transition: remove 32 bytes, decode them, update the average, emit the
Reading (R73, R35). -/
def State.extract (s : State) : State :=
  let r := decodeFrame s.candidate
  ((s.bufPop Config.frameSize).average r).emit r

/-- `SYNC.DISCARD`: remove one byte (R74). -/
def State.discard (s : State) : State := s.bufPop 1

/-- `SYNC.WAIT` (R72): nothing changes. -/
def execSyncWait (s : State) : Host.Outcome State Fault Refusal :=
  if syncOutcome s.buf = .wait then .next s else .refused .notSelected

/-- `SYNC.EXTRACT` (R73). -/
def execSyncExtract (s : State) : Host.Outcome State Fault Refusal :=
  if syncOutcome s.buf = .extract then .next s.extract else .refused .notSelected

/-- `SYNC.DISCARD` (R74). -/
def execSyncDiscard (s : State) : Host.Outcome State Fault Refusal :=
  if syncOutcome s.buf = .discard then .next s.discard else .refused .notSelected

end Sys2Proof.Machine
end

