-- ==== Sys2Proof/Machine/Dispatch.lean ====
section
/-! DEFINITION. One arm for each operation of R61. -/

namespace Sys2Proof.Machine

def exec (i : Instr) (s : State) : Host.Outcome State Fault Refusal :=
  match i with
  | .reset => Sys2Proof.Machine.execReset s
  | .rxfail => Sys2Proof.Machine.execRxfail s
  | .push b => Sys2Proof.Machine.execPush b s
  | .syncWait => Sys2Proof.Machine.execSyncWait s
  | .syncExtract => Sys2Proof.Machine.execSyncExtract s
  | .syncDiscard => Sys2Proof.Machine.execSyncDiscard s
  | .decode f => Sys2Proof.Machine.execDecode f s
  | .decodeErr input => Sys2Proof.Machine.execDecodeErr input s
  | .avgBothErr retained incoming => Sys2Proof.Machine.execAvgBothErr retained incoming s
  | .avgSnap retained incoming => Sys2Proof.Machine.execAvgSnap retained incoming s
  | .avgHold retained incoming => Sys2Proof.Machine.execAvgHold retained incoming s
  | .avgMean retained incoming => Sys2Proof.Machine.execAvgMean retained incoming s
  | .encodeRequestData => Sys2Proof.Machine.execEncodeRequestData s
  | .encodeMakePassive => Sys2Proof.Machine.execEncodeMakePassive s
  | .encodeMakeActive => Sys2Proof.Machine.execEncodeMakeActive s
  | .encodeSleep => Sys2Proof.Machine.execEncodeSleep s
  | .encodeWakeUp => Sys2Proof.Machine.execEncodeWakeUp s
  | .encodeUnknown kind => Sys2Proof.Machine.execEncodeUnknown kind s

end Sys2Proof.Machine
end

