-- ==== Sys2Proof/Machine/Fetch.lean ====
section
/-! DEFINITION. Which operation is next: the port events of the oldest pending request (30_encoding.md
R60), a function call, or, where none of these can be served, the synchronizer's own step (R57).
The order and the queue are the model's own (notes/assumptions/1.md, 4.md, 5.md, 12.md). -/

namespace Sys2Proof.Machine

/-- The strobes `{rst, rx_fail, rx_xfer, cmd_req}`, where `rx_xfer = rx_valid and rx_ready` (R60). -/
def PortIn.strobes (p : PortIn) (rxReady : Bool) : BitVec 4 :=
  BitVec.ofBool p.rst ++ BitVec.ofBool p.rxFail ++ BitVec.ofBool (p.rxValid && rxReady) ++
    BitVec.ofBool p.cmdReq

/-- What is left of a cycle once its first selected operation has been taken.  `rst` takes the whole
cycle with it (R60).  A byte that could not be transferred stays with the byte source (R37, D4). -/
def PortIn.residue (p : PortIn) (rxReady : Bool) : List Request :=
  if p.rst then []
  else
    let left : PortIn :=
      if p.rxFail then { p with rxFail := false }
      else if p.rxValid && rxReady then { p with rxValid := false }
      else { p with cmdReq := false }
    if left.rxFail || left.rxValid || left.cmdReq then [.cycle left] else []

/-- The next operation word: from the oldest request, or the synchronizer's selector where there is
no request, the cycle has no strobe, or its only event is a byte that does not fit. -/
def State.fetch (s : State) : List Byte :=
  match s.sched with
  | [] => syncWord (syncSelector s.buf)
  | .cycle p :: _ =>
    if p.strobes s.rxReady = 0 then syncWord (syncSelector s.buf)
    else portWord (p.strobes s.rxReady) p.rxData p.cmdKind
  | .decode input :: _ => dataWord input
  | .combine retained incoming :: _ => avgWord retained incoming

/-- The state in which the fetched operation runs: its event has left the queue. -/
def State.advance (s : State) : State :=
  { s with
    sched :=
      match s.sched with
      | [] => []
      | .cycle p :: rest => p.residue s.rxReady ++ rest
      | .decode _ :: rest => rest
      | .combine _ _ :: rest => rest }

/-- A cycle with one strobe, or none. -/
def PortIn.only (rst rxFail rxValid : Bool) (rxData : Byte) (cmdReq : Bool) (cmdKind : KindCode) :
    Request :=
  .cycle { rst := rst, rxFail := rxFail, rxValid := rxValid, rxData := rxData, cmdReq := cmdReq,
           cmdKind := cmdKind }

/-- The request that has an operation performed next; for a synchronizer operation an idle cycle. -/
def requestFor : Instr → Request
  | .reset => PortIn.only true false false 0 false 0
  | .rxfail => PortIn.only false true false 0 false 0
  | .push b => PortIn.only false false true b false 0
  | .syncWait => .cycle PortIn.idle
  | .syncExtract => .cycle PortIn.idle
  | .syncDiscard => .cycle PortIn.idle
  | .decode f => .decode f
  | .decodeErr input => .decode input
  | .avgBothErr r i => .combine r i
  | .avgSnap r i => .combine r i
  | .avgHold r i => .combine r i
  | .avgMean r i => .combine r i
  | .encodeRequestData => PortIn.only false false false 0 true Kind.requestData.code
  | .encodeMakePassive => PortIn.only false false false 0 true Kind.makePassive.code
  | .encodeMakeActive => PortIn.only false false false 0 true Kind.makeActive.code
  | .encodeSleep => PortIn.only false false false 0 true Kind.sleep.code
  | .encodeWakeUp => PortIn.only false false false 0 true Kind.wakeUp.code
  | .encodeUnknown k => PortIn.only false false false 0 true k

/-- A buffer whose selector selects a synchronizer operation: the given one where it does, else the
plainest; the buffer itself for every other operation. -/
def bufferFor (i : Instr) (buf : List Byte) : List Byte :=
  match i with
  | .syncWait => if syncOutcome buf = .wait then buf else []
  | .syncExtract =>
    if syncOutcome buf = .extract then buf
    else Config.marker0 :: Config.marker1 :: List.replicate 30 0
  | .syncDiscard => if syncOutcome buf = .discard then buf else List.replicate 32 0
  | _ => buf

/-- The state whose very next step runs the operation. -/
def State.withInstr (s : State) (i : Instr) : State :=
  { s with sched := requestFor i :: s.sched, buf := bufferFor i s.buf }

end Sys2Proof.Machine
end

