-- ==== Sys2Proof/Machine/Step.lean ====
section
/-! DEFINITION. One step: fetch the next operation word, decode it, run it (00_scope.md R8: one
operation is one step). -/

namespace Sys2Proof.Machine

/-- One operation. -/
def step (s : State) : Host.Outcome State Fault Refusal :=
  match decode s.fetch with
  | .ok i => exec i s.advance
  | .error _ => .refused .undecodable

/-- The state whose very next step runs the operation of a table word; the state itself where the
word is none (notes/assumptions/2.md, 15.md). -/
def State.withFetchWord (s : State) (nbits w : Nat) : State :=
  match decodeTableWord nbits w with
  | some i => s.withInstr i
  | none => s

end Sys2Proof.Machine
end

