-- ==== Sys2Proof/Machine/Feed.lean ====
section
/-! DEFINITION. `FEED`, the source's entry point, as the macro of 40_sync.md R76: append a whole
chunk (the source's buffer is unbounded), then take SYNC steps until `SYNC.WAIT`. -/

namespace Sys2Proof.Machine

/-- The synchronizer loop (R77) for at most `fuel` steps. -/
def State.drain : Nat → State → State
  | 0, s => s
  | fuel + 1, s =>
    match syncOutcome s.buf with
    | .wait => s
    | .extract => State.drain fuel s.extract
    | .discard => State.drain fuel s.discard

/-- `FEED(bytes)` (R76).  Every SYNC step removes a byte (R78), so the buffer's length is fuel
enough. -/
def State.feed (s : State) (bytes : List Byte) : State :=
  State.drain (s.buf ++ bytes).length { s with buf := s.buf ++ bytes }

end Sys2Proof.Machine
end

