-- ==== Sys2Proof/Machine/Ports.lean ====
section
/-! DEFINITION. The outbound ports of 10_state.md R22 as a view of the states before and after an
operation.  Nothing reads the view. -/

namespace Sys2Proof.Machine

/-- The command outputs (R22). -/
structure CmdOut where
  /-- `cmd_bytes[55:0]`, byte 0 in bits 55:48 -/
  bytes : BitVec 56
  /-- `cmd_unknown` -/
  unknown : Bool
  /-- `cmd_expects_reply` -/
  expectsReply : Bool
  deriving DecidableEq, Repr

/-- The outbound ports (R22). -/
structure PortOut where
  /-- `rx_ready` -/
  rxReady : Bool
  /-- `close_req` -/
  closeReq : Bool
  /-- `rd_valid`, the pulse of an `Emit` -/
  rdValid : Bool
  /-- the 17 `rd_*` outputs -/
  rd : Reading
  /-- the 17 `avg_*` outputs and `avg_failed`, only if `AVG_ENABLE` -/
  avg : Option (Reading × Bool)
  /-- the command outputs, from the first request on -/
  cmd : Option CmdOut
  deriving DecidableEq, Repr

/-- A command frame as the 56-bit value of 00_scope.md §6.2: byte `k` in bits `[55 - 8k : 48 - 8k]`. -/
def cmdBits (c : List Byte) : BitVec 56 :=
  c.getD 0 0 ++ c.getD 1 0 ++ c.getD 2 0 ++ c.getD 3 0 ++ c.getD 4 0 ++ c.getD 5 0 ++ c.getD 6 0

/-- The command outputs of a result (R22, R128 to R133): while the kind is unknown, bytes and reply
flag are free values (U2). -/
def EncResult.outputs (draw : Nat) : EncResult → CmdOut
  | .frame bytes expectsReply =>
    { bytes := cmdBits bytes, unknown := false, expectsReply := expectsReply }
  | .unrecognizedCommand =>
    { bytes := Config.unknownCmdBytes draw, unknown := true,
      expectsReply := Config.unknownExpectsReply draw }

/-- The outbound ports after an operation (R173). -/
def outputs (before after : State) : PortOut :=
  { rxReady := after.rxReady
    closeReq := after.closeReq
    rdValid := decide (before.out.length < after.out.length)
    rd := after.rd
    avg := if after.build.avgEnable then some (after.retained, after.avgFail) else none
    cmd := after.encResult.map (EncResult.outputs after.draws) }

end Sys2Proof.Machine
end

