-- ==== Sys2Proof/Safety.lean ====
section
/-! DEFINITION. The terms in which claims about runs are stated: the invariant of the block,
quiescence (40_sync.md R79), and the stream-level description of what the synchronizer must do
(R80), written on whole streams and not on the machine. -/

namespace Sys2Proof.Machine

/-- Quiescent: the synchronizer has no step to take (R79, R41). -/
abbrev State.quiescent (s : State) : Prop := s.buf.length < 32

/-- What holds in every run from reset, in every build:
the buffer within its capacity (R11); `rdSeen` and `rd` in agreement with `out` (R16); no emitted
Reading in error (R91); `retained` the fold of `combine` over `out` from its reset value, in order
(R111, R39); no both-error update (R121); 32 bytes removed for each Reading (R34). -/
abbrev State.Inv (s : State) : Prop :=
  s.bufFits = true ∧
  s.rdSeen = !s.out.isEmpty ∧
  (s.rdSeen = true → s.out.getLast? = some s.rd) ∧
  (∀ r ∈ s.out, r.isError = false) ∧
  (s.build.avgEnable = true → s.retained = s.out.foldl combine retainedReset) ∧
  s.avgFail = false ∧
  32 * s.out.length ≤ s.pos

/-- A request that the build can serve: `combine` needs the averaging engine (R4). -/
def Request.fits (avgEnable : Bool) : Request → Bool
  | .cycle _ => true
  | .decode _ => true
  | .combine _ _ => avgEnable

/-- Every pending request can be served. -/
def State.requestsFit (s : State) : Bool := s.sched.all (Request.fits s.build.avgEnable)

/-- The request does not reset the block. -/
def Request.keepsRunning : Request → Bool
  | .cycle p => !p.rst
  | .decode _ => true
  | .combine _ _ => true

/-- The byte a request offers, if any. -/
def Request.bytes : Request → List Byte
  | .cycle p => if p.rxValid then [p.rxData] else []
  | .decode _ => []
  | .combine _ _ => []

/-- The bytes still to be pushed, in order. -/
def pendingBytes (sched : List Request) : List Byte := sched.flatMap Request.bytes

/-- A bound on the steps a request can take, with the removal of its byte. -/
def Request.work : Request → Nat
  | .cycle p => 1 + p.rst.toNat + p.rxFail.toNat + 2 * p.rxValid.toNat + p.cmdReq.toNat
  | .decode _ => 1
  | .combine _ _ => 1

/-- A bound on the steps until nothing is pending and the synchronizer waits. -/
def State.work (s : State) : Nat := s.buf.length + (s.sched.map Request.work).sum

/-- The marker stands at position `p` of a stream: `p` is a frame position (R80). -/
def markerAt (S : List Byte) (p : Nat) : Bool :=
  S[p]? == some Config.marker0 && S[p + 1]? == some Config.marker1

/-- `p_(k+1)` from `p_k` (R80). -/
def nextPosition (S : List Byte) (p : Nat) : Nat := if markerAt S p then p + 32 else p + 1

/-- The positions `p_0, p_1, ...` of R80 from `p` on at which a SYNC step is enabled, at most `fuel`
of them. -/
def positionsFrom (S : List Byte) : Nat → Nat → List Nat
  | 0, _ => []
  | fuel + 1, p =>
    if p + 32 ≤ S.length then p :: positionsFrom S fuel (nextPosition S p) else []

/-- The positions of R80 at which SYNC steps are taken on the whole stream. -/
def positions (S : List Byte) : List Nat := positionsFrom S S.length 0

/-- The candidate at a position (R80). -/
def candidateAt (S : List Byte) (p : Nat) : List Byte := (S.drop p).take 32

/-- The Readings the stream determines: the decoded candidates at its frame positions, in order. -/
def streamReadings (S : List Byte) : List Reading :=
  ((positions S).filter (markerAt S)).map fun p => decodeFrame (candidateAt S p)

/-- The first position at which no SYNC step is enabled: `p_K` of R80. -/
def stopPosition (S : List Byte) : Nat :=
  match (positions S).getLast? with
  | none => 0
  | some p => nextPosition S p

end Sys2Proof.Machine
end

