-- ==== Sys2Proof/WellFormed.lean ====
section
/-! DEFINITION. Which operations are well formed: the operands are those whose selector picks the
operation (30_encoding.md R56, R58, R59). -/

namespace Sys2Proof

/-- The operation's own operands select it.  The port and synchronizer rows have no operand that a
selector reads. -/
def Instr.wellFormed : Instr → Bool
  | .reset => true
  | .rxfail => true
  | .push _ => true
  | .syncWait => true
  | .syncExtract => true
  | .syncDiscard => true
  | .decode f => decoderSelects f
  | .decodeErr s => !decoderSelects s
  | .avgBothErr r i => r.isError && i.isError
  | .avgSnap r i => r.isError && !i.isError
  | .avgHold r i => !r.isError && i.isError
  | .avgMean r i => !r.isError && !i.isError
  | .encodeRequestData => true
  | .encodeMakePassive => true
  | .encodeMakeActive => true
  | .encodeSleep => true
  | .encodeWakeUp => true
  | .encodeUnknown k => decide (5 ≤ k.toNat)

end Sys2Proof
end

