-- ==== Sys2Proof/Certificates/Slice0/Obligations.lean ====
section
/-! DEFINITION. The statements for the provers.  Each docstring names the rule of spec/ it formalises;
"derivation" marks a rule the spec itself marks as derived, and "model" a clause that is the model's
own choice, with its log entry. -/

open Sys2Proof Sys2Proof.Machine

/-! ## Words and selection -/

/-- Every well-formed operation is read back from the word the encoder writes for it, with every
operand at every value (30_encoding.md R56 to R60 give the selector bits; the word layout around
them is the model's, log 3). -/
def Obligations.DecodeEncodeAgree : Prop :=
  ∀ i : Instr, i.wellFormed = true → decode (encode i) = .ok i

/-- The decoder never yields an operation whose own selector would not select it
(30_encoding.md R56, R58, R59; word layout log 3). -/
def Obligations.DecodedOperationsAreWellFormed : Prop :=
  ∀ (word : List Byte) (i : Instr), decode word = .ok i → i.wellFormed = true

/-- Words written out from the selector codes of 30_encoding.md: one of every format
(word layout log 3). -/
def Obligations.SampleWordsDecode : Prop :=
  decode [0x08, 0x00, 0x00] = .ok .reset ∧
  decode [0x04, 0x00, 0x00] = .ok .rxfail ∧
  decode [0x02, 0x5A, 0x00] = .ok (.push 0x5A) ∧
  decode [0x10] = .ok .syncWait ∧
  decode [0x13] = .ok .syncExtract ∧
  decode [0x12] = .ok .syncDiscard ∧
  decode (0x30 :: 0x42 :: 0x4D :: List.replicate 30 0) =
    .ok (.decode (0x42 :: 0x4D :: List.replicate 30 0)) ∧
  decode [0x30, 0x42, 0x4D] = .ok (.decodeErr [0x42, 0x4D]) ∧
  decode [0x42] = .ok .encodeMakeActive ∧
  decode [0x01, 0x00, 0x03] = .ok .encodeSleep ∧
  decode [0x47] = .ok (.encodeUnknown 7) ∧
  decode [0x50] = .error .unknownFormat ∧
  decode [0x00, 0x00, 0x00] = .error .noEvent

/-- The synchronizer selector, R57: `0x` selects `SYNC.WAIT`, `11` `SYNC.EXTRACT`, `10`
`SYNC.DISCARD`, where g says that 32 bytes are buffered and m that the first two are 0x42, 0x4D. -/
def Obligations.SynchronizerSelectorPicksTheOutcome : Prop :=
  ∀ buf : List Byte,
    (decodeSync (syncSelector buf) = .syncWait ↔ buf.length < 32) ∧
    (decodeSync (syncSelector buf) = .syncExtract ↔
      32 ≤ buf.length ∧ buf[0]? = some 0x42#8 ∧ buf[1]? = some 0x4D#8) ∧
    (decodeSync (syncSelector buf) = .syncDiscard ↔
      32 ≤ buf.length ∧ ¬(buf[0]? = some 0x42#8 ∧ buf[1]? = some 0x4D#8))

/-- The decoder selector, R59: `DECODE` for an input of length 32 that begins 0x42, 0x4D, every other
input `DECODE.ERR`; and in the 256-bit view the match 0x424D in the top 16 bits. -/
def Obligations.DecoderSelectorSplitsAllInputs : Prop :=
  (∀ input : List Byte,
    (decode (dataWord input) = .ok (.decode input) ↔
      input.length = 32 ∧ input[0]? = some 0x42#8 ∧ input[1]? = some 0x4D#8) ∧
    (decode (dataWord input) = .ok (.decodeErr input) ↔
      ¬(input.length = 32 ∧ input[0]? = some 0x42#8 ∧ input[1]? = some 0x4D#8))) ∧
  (∀ w : Nat, w < 2 ^ 256 →
    (decodeTableWord 256 w = some (.decode (bytesBE 32 w)) ↔ w / 2 ^ 240 = 0x424D) ∧
    (decodeTableWord 256 w = some (.decodeErr (bytesBE 32 w)) ↔ w / 2 ^ 240 ≠ 0x424D))

/-- The kind codes, R56: 0 to 4 are the five kinds in the source's order, 5, 6, 7 name no Command. -/
def Obligations.KindCodesSelectTheEncodeRows : Prop :=
  decode (kindWord 0) = .ok .encodeRequestData ∧
  decode (kindWord 1) = .ok .encodeMakePassive ∧
  decode (kindWord 2) = .ok .encodeMakeActive ∧
  decode (kindWord 3) = .ok .encodeSleep ∧
  decode (kindWord 4) = .ok .encodeWakeUp ∧
  ∀ k : KindCode, 5 ≤ k.toNat → decode (kindWord k) = .ok (.encodeUnknown k)

/-! ## Steps -/

/-- A step runs the operation that the fetched word decodes to, and every state fetches one (R8: one
operation is one step).  What the step adds around it is the loss of the event that was served: the
operation runs in the same state with other pending requests, in which a pushed byte is no longer
offered, no other byte is lost or reordered unless the cycle was a reset, and the same requests only
where the synchronizer takes its own step.  That events are pending requests and operations have words
is the model's (logs 1, 2, 3). -/
def Obligations.StepRunsTheDecodedOperation : Prop :=
  (∀ s : State, ∃ i, decode s.fetch = .ok i) ∧
  (∀ (s : State) (i : Instr), decode s.fetch = .ok i →
    i.wellFormed = true ∧
    ∃ rest, step s = exec i { s with sched := rest } ∧
      (∀ b, i = .push b → pendingBytes s.sched = b :: pendingBytes rest) ∧
      (i ≠ .reset → (∀ b, i ≠ .push b) → pendingBytes rest = pendingBytes s.sched) ∧
      (i = .reset → ∃ p, p.rst = true ∧ s.sched = .cycle p :: rest) ∧
      (rest = s.sched → i = decodeSync (syncSelector s.buf)) ∧
      (rest ≠ s.sched → (rest.map Request.work).sum < (s.sched.map Request.work).sum))

/-- The port events of one cycle, R60: `rst` selects `RESET` alone and the rest of the cycle is
ignored; otherwise `rx_fail`, a byte that is transferred (`rx_valid and rx_ready`) and `cmd_req`
select their operations one after another, and a cycle in which none of them acts leaves the step to
the synchronizer.  The model's choices: the order among the three (log 4; any order is allowed), that
a byte that is not transferred stays pending (log 5), that a cycle in which nothing acts is one turn of
the synchronizer (log 12), and that a byte offered beside `rst` is gone with its cycle (log 21). -/
def Obligations.PortStrobesSelectTheirOperations : Prop :=
  ∀ (s : State) (p : PortIn) (rest : List Request), s.sched = .cycle p :: rest →
    (p.rst = true → step s = exec .reset { s with sched := rest }) ∧
    (p.rst = false → p.rxFail = true →
      step s = exec .rxfail
        { s with sched :=
            if p.rxValid || p.cmdReq then .cycle { p with rxFail := false } :: rest else rest }) ∧
    (p.rst = false → p.rxFail = false → p.rxValid = true → s.rxReady = true →
      step s = exec (.push p.rxData)
        { s with sched :=
            if p.cmdReq then .cycle { p with rxValid := false } :: rest else rest }) ∧
    (p.rst = false → p.rxFail = false → (p.rxValid && s.rxReady) = false → p.cmdReq = true →
      step s = exec (decodeKind p.cmdKind)
        { s with sched :=
            if p.rxValid then .cycle { p with cmdReq := false } :: rest else rest }) ∧
    (p.rst = false → p.rxFail = false → (p.rxValid && s.rxReady) = false → p.cmdReq = false →
      step s = exec (decodeSync (syncSelector s.buf))
        { s with sched := if p.rxValid then s.sched else rest })

/-- With nothing pending the synchronizer takes its own step (R57, R60: "the synchronizer takes them
on its own"); a pending function call is answered by the row its own operands select (R58, R59; that
such calls are requests is the model's, log 9). -/
def Obligations.SynchronizerAndFunctionCallsAreServed : Prop :=
  ∀ s : State,
    (s.sched = [] → step s = exec (decodeSync (syncSelector s.buf)) s) ∧
    (∀ input rest, s.sched = .decode input :: rest →
      step s = exec (if decoderSelects input then .decode input else .decodeErr input)
        { s with sched := rest }) ∧
    (∀ r i rest, s.sched = .combine r i :: rest →
      step s = exec (decodeAvg (avgSelector r i) r i) { s with sched := rest })

/-- Nothing stops the block (R146, R152: it "never stops itself"): wherever the pending requests are
ones the build can serve, a step answers a next state, and they still are. -/
def Obligations.StepNeverStops : Prop :=
  ∀ s : State, s.requestsFit = true → ∃ t, step s = .next t ∧ t.requestsFit = true

/-! ## Reset, transport failure, push -/

/-- `RESET`, R160 with the table of R25: whatever the state, every piece of state of the block takes its
reset value; `rd` is left unspecified. -/
def Obligations.ResetOperationRestoresEveryValue : Prop :=
  ∀ s : State, ∃ t : State, exec .reset s = .next t ∧
    t.buf = [] ∧ t.pos = 0 ∧ t.out = [] ∧ t.rdSeen = false ∧ t.closeReq = false ∧
    (s.build.avgEnable = true →
      t.retained =
        { frameLength := 0, stdPm1 := 0, stdPm25 := 0, stdPm10 := 0, atmPm1 := 0, atmPm25 := 0,
          atmPm10 := 0, rawCount03 := 0, rawCount05 := 0, rawCount1 := 0, rawCount25 := 0,
          rawCount5 := 0, rawCount10 := 0, version := 0, errorCode := 0,
          checksumValid := false, isError := true } ∧
      t.avgFail = false)

/-- The launch state, in any build, holds the values of R25's table: "a model takes a reset state as
its launch state" (R161). -/
def Obligations.ResetStateHoldsTheTable : Prop :=
  ∀ b : Build,
    let s := State.resetFor b
    s.buf = [] ∧ s.pos = 0 ∧ s.out = [] ∧ s.rdSeen = false ∧ s.closeReq = false ∧
    (b.avgEnable = true →
      s.retained.isError = true ∧ s.retained.checksumValid = false ∧
      (∀ x, s.retained.measurement x = 0) ∧ s.retained.frameLength = 0 ∧ s.retained.version = 0 ∧
      s.retained.errorCode = 0 ∧ s.avgFail = false)

/-- `RXFAIL`, R144 and R17: it sets `closeReq` and changes nothing else, and nothing at all where
`closeReq` is 1 already.  Of every other operation but `RESET`: it neither sets nor clears `closeReq`,
and it runs with `closeReq` set exactly as without, the free value that `DECODE.ERR` draws apart. -/
def Obligations.RxfailSetsTheStickyCloseRequest : Prop :=
  (∀ s : State,
    exec .rxfail s = .next { s with closeReq := true } ∧
    (s.closeReq = true → exec .rxfail s = .next s)) ∧
  (∀ (i : Instr) (s t : State), i ≠ .reset → exec i s = .next t →
    (t.closeReq = true ↔ s.closeReq = true ∨ i = .rxfail) ∧
    ∃ answer, ((∀ input, i ≠ .decodeErr input) → answer = t.decResult) ∧
      exec i { s with closeReq := true } =
        .next { t with closeReq := true, decResult := answer }) ∧
  (∀ s t : State, exec .reset s = .next t → t.closeReq = false)

/-- `PUSH(b)`, R71: with room, one byte is appended and nothing else changes; without room there is
no such step. -/
def Obligations.PushAppendsOneByteWhileThereIsRoom : Prop :=
  ∀ (s : State) (b : Byte),
    (s.rxReady = true → exec (.push b) s = .next { s with buf := s.buf ++ [b] }) ∧
    (s.rxReady = false → exec (.push b) s = .refused .notEnabled)

/-- The ports that show state, R22: `rx_ready` is 1 exactly while the buffer holds fewer than `BUF_CAP`
bytes, `close_req` is `closeReq`, the 17 `rd_*` outputs are `rd`, and `avg_*` and `avg_failed`, which
exist only if `AVG_ENABLE`, are `retained` and `avgFail`: the values of the state after the operation
(R173).  After an extraction `rd_valid`, `rd_*` and `avg_*` show it together. -/
def Obligations.StatusPortsShowTheState : Prop :=
  (∀ s t : State,
    (t.build.bufCap = .unbounded → (outputs s t).rxReady = true) ∧
    (∀ n, t.build.bufCap = .atLeast32 n →
      ((outputs s t).rxReady = true ↔ t.buf.length < 32 + n)) ∧
    (outputs s t).closeReq = t.closeReq ∧
    (outputs s t).rd = t.rd ∧
    (t.build.avgEnable = true → (outputs s t).avg = some (t.retained, t.avgFail)) ∧
    (t.build.avgEnable = false → (outputs s t).avg = none)) ∧
  (∀ s t : State, exec .syncExtract s = .next t →
    (outputs s t).rdValid = true ∧ (outputs s t).rd = decodeFrame (s.buf.take 32) ∧
    (s.build.avgEnable = true →
      (outputs s t).avg.map Prod.fst = some (combine s.retained (decodeFrame (s.buf.take 32)))))

/-- A full buffer never lasts, R37: while the byte source offers a byte that does not fit, the
synchronizer takes a step that makes room, and the byte is still offered. -/
def Obligations.FullBufferMakesRoomForTheOfferedByte : Prop :=
  ∀ (s : State) (p : PortIn) (rest : List Request),
    s.sched = .cycle p :: rest → p.rst = false → p.rxFail = false → p.cmdReq = false →
    p.rxValid = true → s.bufFits = true → s.rxReady = false →
    ∃ t, step s = .next t ∧ t.sched = s.sched ∧ t.rxReady = true ∧ t.buf.length < s.buf.length

/-! ## The synchronizer -/

/-- `SYNC.WAIT`, R72: selected below 32 bytes, whatever they are, and then no state changes; with
nothing pending the whole step changes nothing. -/
def Obligations.WaitChangesNothing : Prop :=
  ∀ s : State, s.buf.length < 32 →
    exec .syncWait s = .next s ∧ (s.sched = [] → step s = .next s)

/-- `SYNC.EXTRACT`, R73: with 32 or more bytes and the marker at the head, exactly the first 32 bytes
leave the buffer, their Reading is emitted, and the average, if there is one, is updated with it. -/
def Obligations.ExtractRemovesAndEmitsOneFrame : Prop :=
  ∀ s : State, 32 ≤ s.buf.length → s.buf[0]? = some 0x42#8 → s.buf[1]? = some 0x4D#8 →
    let r := decodeFrame (s.buf.take 32)
    r.isError = false ∧
    exec .syncExtract s = .next
      { s with
        buf := s.buf.drop 32, pos := s.pos + 32, out := s.out ++ [r], rd := r, rdSeen := true,
        retained := if s.build.avgEnable then combine s.retained r else s.retained,
        avgFail :=
          if s.build.avgEnable then s.retained.isError && r.isError else s.avgFail }

/-- `SYNC.DISCARD`, R74: with 32 or more bytes and no marker at the head, exactly one byte leaves the
buffer and nothing else changes. -/
def Obligations.DiscardRemovesOneByte : Prop :=
  ∀ s : State, 32 ≤ s.buf.length → ¬(s.buf[0]? = some 0x42#8 ∧ s.buf[1]? = some 0x4D#8) →
    exec .syncDiscard s = .next { s with buf := s.buf.drop 1, pos := s.pos + 1 }

/-- An operation whose selector does not select it is no step of its agent (R57, R59, R58, R56); that it
is refused by name is the model's (log 10). -/
def Obligations.UnselectedOperationsAreNoSteps : Prop :=
  ∀ s : State,
    (32 ≤ s.buf.length → exec .syncWait s = .refused .notSelected) ∧
    (¬(32 ≤ s.buf.length ∧ s.buf[0]? = some 0x42#8 ∧ s.buf[1]? = some 0x4D#8) →
      exec .syncExtract s = .refused .notSelected) ∧
    (¬(32 ≤ s.buf.length ∧ ¬(s.buf[0]? = some 0x42#8 ∧ s.buf[1]? = some 0x4D#8)) →
      exec .syncDiscard s = .refused .notSelected) ∧
    (∀ f, decoderSelects f = false → exec (.decode f) s = .refused .notSelected) ∧
    (∀ f, decoderSelects f = true → exec (.decodeErr f) s = .refused .notSelected) ∧
    (∀ r i, s.build.avgEnable = true →
      ((r.isError && i.isError) = false → exec (.avgBothErr r i) s = .refused .notSelected) ∧
      ((r.isError && !i.isError) = false → exec (.avgSnap r i) s = .refused .notSelected) ∧
      ((!r.isError && i.isError) = false → exec (.avgHold r i) s = .refused .notSelected) ∧
      ((!r.isError && !i.isError) = false → exec (.avgMean r i) s = .refused .notSelected)) ∧
    (∀ k : KindCode, k.toNat < 5 → exec (.encodeUnknown k) s = .refused .notSelected)

/-- Progress and termination (derivation R78): with nothing pending, a buffer of `n` bytes, `n` at
least 32, is quiescent after at most `n - 31` steps, and each step on the way removes a byte. -/
def Obligations.SynchronizerLoopTerminates : Prop :=
  ∀ s : State, s.sched = [] → 32 ≤ s.buf.length →
    (∃ t, step s = .next t ∧ t.sched = [] ∧ t.buf.length < s.buf.length ∧ s.pos < t.pos) ∧
    (∃ k t, k ≤ s.buf.length - 31 ∧ core.run k s = .next t ∧ t.quiescent ∧ t.sched = [])

/-- After `FEED` the block is quiescent: `len(buf) < 32` (derivation R79; 90_conflicts.md C3 keeps this
strong form). -/
def Obligations.FeedEndsQuiescent : Prop :=
  ∀ (s : State) (bytes : List Byte), (s.feed bytes).quiescent

/-- The stream-level characterisation (derivation R80): feeding a chunk emits exactly the Readings of
the frame positions of the whole buffered stream, in order, and stops at its first position without
32 bytes left. -/
def Obligations.FeedFollowsTheStreamPositions : Prop :=
  ∀ (s : State) (bytes : List Byte),
    let S := s.buf ++ bytes
    let t := s.feed bytes
    t.out = s.out ++ streamReadings S ∧
    t.pos = s.pos + stopPosition S ∧
    t.buf = S.drop (stopPosition S)

/-- Chunking-independence of the whole state (derivation R82; the source's property E1): feeding two
chunks is feeding their concatenation. -/
def Obligations.FeedIsChunkingIndependent : Prop :=
  ∀ (s : State) (a b : List Byte), (s.feed a).feed b = s.feed (a ++ b)

/-- Independence of scheduling and capacity (derivation R82): in every build, whatever the order of
pushes, synchronizer turns, command requests, function calls and transport failures, a run without
reset that has served everything and is quiescent has emitted the Readings that the stream of bytes
determines, and holds its tail. -/
def Obligations.SchedulingAndCapacityDoNotChangeTheReadings : Prop :=
  ∀ (s t : State) (n : Nat), s.sched.all Request.keepsRunning = true →
    core.run n s = .next t → t.sched = [] → t.quiescent →
    let S := s.buf ++ pendingBytes s.sched
    t.out = s.out ++ streamReadings S ∧
    t.pos = s.pos + stopPosition S ∧
    t.buf = S.drop (stopPosition S)

/-- No deadlock, and the weak fairness of R78 holds in the model (log 12): from every state whose
requests the build can serve, the run reaches a state with nothing pending and the synchronizer
waiting, within a bound computed from the state. -/
def Obligations.EveryRunIsServedAndQuiesces : Prop :=
  ∀ s : State, s.requestsFit = true →
    ∃ t, core.run s.work s = .next t ∧ t.sched = [] ∧ t.quiescent

/-- A clean stream stays aligned (derivation R84): whole frames laid end to end from an empty buffer
are all extracted, each as it was sent, and nothing is left. -/
def Obligations.AlignedFramesAreAllExtracted : Prop :=
  ∀ (s : State) (frames : List (List Byte)), s.buf = [] →
    (∀ f ∈ frames, f.length = 32 ∧ f[0]? = some 0x42#8 ∧ f[1]? = some 0x4D#8) →
    let t := s.feed frames.flatten
    t.out = s.out ++ frames.map decodeFrame ∧ t.pos = s.pos + 32 * frames.length ∧ t.buf = []

/-! ## The decoder -/

/-- `DECODE`, R92 and R94: every field of the Reading from its offsets, big-endian and unsigned, the
checksum flag from the exact byte sum of offsets 0 to 29, `isError` 0; nothing else of the state
changes.  The Reading is `decodeFrame f`, the one `SYNC.EXTRACT` emits for the candidate `f`. -/
def Obligations.DecodeFillsEveryField : Prop :=
  ∀ (s : State) (f : List Byte),
    f.length = 32 → f[0]? = some 0x42#8 → f[1]? = some 0x4D#8 →
    let b := fun k => (f.getD k 0).toNat
    ∃ r : Reading,
      exec (.decode f) s = .next { s with decResult := some r } ∧
      r = decodeFrame f ∧
      r.frameLength.toNat = b 2 * 256 + b 3 ∧
      r.stdPm1.toNat = b 4 * 256 + b 5 ∧
      r.stdPm25.toNat = b 6 * 256 + b 7 ∧
      r.stdPm10.toNat = b 8 * 256 + b 9 ∧
      r.atmPm1.toNat = b 10 * 256 + b 11 ∧
      r.atmPm25.toNat = b 12 * 256 + b 13 ∧
      r.atmPm10.toNat = b 14 * 256 + b 15 ∧
      r.rawCount03.toNat = b 16 * 256 + b 17 ∧
      r.rawCount05.toNat = b 18 * 256 + b 19 ∧
      r.rawCount1.toNat = b 20 * 256 + b 21 ∧
      r.rawCount25.toNat = b 22 * 256 + b 23 ∧
      r.rawCount5.toNat = b 24 * 256 + b 25 ∧
      r.rawCount10.toNat = b 26 * 256 + b 27 ∧
      r.version.toNat = b 28 ∧ r.errorCode.toNat = b 29 ∧
      (r.checksumValid = true ↔
        ((f.take 30).map BitVec.toNat).sum = b 30 * 256 + b 31) ∧
      r.isError = false

/-- The checksum sum, R96: at most 7650 for any 32 bytes, and between 143 and 7283 for a frame that
reaches `DECODE`; the 16-bit accumulator holds it exactly. -/
def Obligations.ChecksumAccumulatorNeverOverflows : Prop :=
  ∀ f : List Byte, f.length = 32 →
    let sum := ((f.take 30).map BitVec.toNat).sum
    sum ≤ 7650 ∧ (checksum16 f 30).toNat = sum ∧
    (f[0]? = some 0x42#8 → f[1]? = some 0x4D#8 → 143 ≤ sum ∧ sum ≤ 7283)

/-- A frame whose checksum field is below 0x008F or above 0x1C73 can never be valid (the derived range
of R97). -/
def Obligations.ChecksumFieldOutsideTheRangeIsInvalid : Prop :=
  ∀ f : List Byte, f.length = 32 → f[0]? = some 0x42#8 → f[1]? = some 0x4D#8 →
    (be16 f 30).toNat < 0x8F ∨ 0x1C73 < (be16 f 30).toNat →
    (decodeFrame f).checksumValid = false

/-- A mismatch is not fatal, R98: whatever the checksum field holds, every other field is extracted
the same way, `isError` stays 0, the Reading is emitted and takes part in the average like any
other. -/
def Obligations.ChecksumMismatchIsNotFatal : Prop :=
  (∀ f g : List Byte, f.length = 32 → g.length = 32 → f.take 30 = g.take 30 →
    decodeFrame g = { decodeFrame f with checksumValid := (decodeFrame g).checksumValid }) ∧
  (∀ s : State, 32 ≤ s.buf.length → s.buf[0]? = some 0x42#8 → s.buf[1]? = some 0x4D#8 →
    (decodeFrame (s.buf.take 32)).checksumValid = false →
    ∃ t, exec .syncExtract s = .next t ∧
      t.out = s.out ++ [decodeFrame (s.buf.take 32)] ∧ t.rd.isError = false ∧
      (s.build.avgEnable = true → t.retained = combine s.retained (decodeFrame (s.buf.take 32))))

/-- One corrupted byte of a valid frame (derivation R103, 90_conflicts.md C1): at offsets 2 to 29 the
checksum fails and exactly the field that holds the byte changes; at 30 or 31 the checksum fails and
no field changes; at 0 or 1 the input selects `DECODE.ERR`. -/
def Obligations.SingleByteCorruptionIsSeen : Prop :=
  ∀ (f : List Byte) (i : Nat) (v : Byte),
    f.length = 32 → f[0]? = some 0x42#8 → f[1]? = some 0x4D#8 →
    (decodeFrame f).checksumValid = true → i < 32 → v ≠ f.getD i 0 →
    let g := f.set i v
    (2 ≤ i →
      decoderSelects g = true ∧
      (decodeFrame g).checksumValid = false ∧
      ((decodeFrame g).frameLength ≠ (decodeFrame f).frameLength ↔ i = 2 ∨ i = 3) ∧
      (∀ x, (decodeFrame g).measurement x ≠ (decodeFrame f).measurement x ↔
        i = measurementOffset x ∨ i = measurementOffset x + 1) ∧
      ((decodeFrame g).version ≠ (decodeFrame f).version ↔ i = 28) ∧
      ((decodeFrame g).errorCode ≠ (decodeFrame f).errorCode ↔ i = 29)) ∧
    (i < 2 → decode (dataWord g) = .ok (.decodeErr g))

/-- What the checksum cannot see (derivation R104): exchanging two bytes among offsets 0 to 29, or
raising one by `d` and lowering another by `d`, leaves the checksum flag as it was. -/
def Obligations.ChecksumCannotSeeReordering : Prop :=
  ∀ (f : List Byte) (i j : Nat), f.length = 32 → i < 30 → j < 30 →
    frameChecksumValid ((f.set i (f.getD j 0)).set j (f.getD i 0)) = frameChecksumValid f ∧
    (∀ d : Nat, i ≠ j → (f.getD i 0).toNat + d < 256 → d ≤ (f.getD j 0).toNat →
      frameChecksumValid
        ((f.set i (BitVec.ofNat 8 ((f.getD i 0).toNat + d))).set j
          (BitVec.ofNat 8 ((f.getD j 0).toNat - d))) = frameChecksumValid f)

/-- `DECODE.ERR`, R91: an input of the wrong length or without the marker gives a Reading with
`isError` 1 and changes no state of the block; the other fields are whatever is drawn.  (The counter
the draw advances is the model's, log 8.) -/
def Obligations.DecodeErrOnlySetsIsError : Prop :=
  ∀ (s : State) (input : List Byte),
    ¬(input.length = 32 ∧ input[0]? = some 0x42#8 ∧ input[1]? = some 0x4D#8) →
    ∃ r : Reading,
      exec (.decodeErr input) s =
        .next { s with decResult := some r, draws := s.draws + 1 } ∧
      r.isError = true

/-! ## The averaging engine -/

/-- `AVG.BOTHERR`, R112 (with R116, R117, R119): the measurement fields stay, the other fields and
`isError` are the incoming ones, the update is reported as failed.  That the row on its own reports in
`avgResult` and leaves the block's `retained` and `avgFail` alone is the model's reading (log 9). -/
def Obligations.AverageOfTwoErrorsKeepsTheFields : Prop :=
  ∀ (s : State) (r i : Reading), s.build.avgEnable = true → r.isError = true → i.isError = true →
    ∃ q : Reading,
      exec (.avgBothErr r i) s = .next { s with avgResult := some (q, true) } ∧
      (∀ x, q.measurement x = r.measurement x) ∧
      q.frameLength = i.frameLength ∧ q.version = i.version ∧ q.errorCode = i.errorCode ∧
      q.checksumValid = i.checksumValid ∧ q.isError = true

/-- `AVG.SNAP`, R113 (with R116, R117, R119): an errored baseline is dropped for the good Reading,
whole.  That the row on its own reports in `avgResult` and leaves the block's `retained` and `avgFail`
alone is the model's reading (log 9). -/
def Obligations.AverageSnapsToTheGoodReading : Prop :=
  ∀ (s : State) (r i : Reading), s.build.avgEnable = true → r.isError = true → i.isError = false →
    exec (.avgSnap r i) s = .next { s with avgResult := some (i, false) }

/-- `AVG.HOLD`, R114 (with R116, R117, R119): the last good measurement fields are kept, the other
fields and `isError` are the incoming ones.  That the row on its own reports in `avgResult` and leaves
the block's `retained` and `avgFail` alone is the model's reading (log 9). -/
def Obligations.AverageHoldsTheLastGoodFields : Prop :=
  ∀ (s : State) (r i : Reading), s.build.avgEnable = true → r.isError = false → i.isError = true →
    ∃ q : Reading,
      exec (.avgHold r i) s = .next { s with avgResult := some (q, false) } ∧
      (∀ x, q.measurement x = r.measurement x) ∧
      q.frameLength = i.frameLength ∧ q.version = i.version ∧ q.errorCode = i.errorCode ∧
      q.checksumValid = i.checksumValid ∧ q.isError = true

/-- `AVG.MEAN`, R115 (with R116, R117, R119): each measurement field is the exact sum halved and
truncated, with no wrap at 16 bits.  That the row on its own reports in `avgResult` and leaves the
block's `retained` and `avgFail` alone is the model's reading (log 9). -/
def Obligations.AverageOfTwoGoodReadingsIsTheFloor : Prop :=
  ∀ (s : State) (r i : Reading), s.build.avgEnable = true → r.isError = false → i.isError = false →
    ∃ q : Reading,
      exec (.avgMean r i) s = .next { s with avgResult := some (q, false) } ∧
      (∀ x, (q.measurement x).toNat = ((r.measurement x).toNat + (i.measurement x).toNat) / 2) ∧
      q.frameLength = i.frameLength ∧ q.version = i.version ∧ q.errorCode = i.errorCode ∧
      q.checksumValid = i.checksumValid ∧ q.isError = false

/-- `AvgUpdate` on the block's registers, for any incoming Reading: the four cases R112 to R115 of the
measurement fields, the other fields and `isError` (R116, R117), `avgFail` (R119), nothing else
changed; and `SYNC.EXTRACT` updates the registers so with the Reading it emits (R111). -/
def Obligations.UpdateOfTheRegistersFollowsTheFourCases : Prop :=
  (∀ (s : State) (i : Reading), s.build.avgEnable = true →
    let r := s.retained
    let t := s.average i
    t = { s with retained := t.retained, avgFail := t.avgFail } ∧
    (r.isError = true → i.isError = true →
      (∀ x, t.retained.measurement x = r.measurement x) ∧ t.avgFail = true) ∧
    (r.isError = true → i.isError = false →
      (∀ x, t.retained.measurement x = i.measurement x) ∧ t.avgFail = false) ∧
    (r.isError = false → i.isError = true →
      (∀ x, t.retained.measurement x = r.measurement x) ∧ t.avgFail = false) ∧
    (r.isError = false → i.isError = false →
      (∀ x, (t.retained.measurement x).toNat =
        ((r.measurement x).toNat + (i.measurement x).toNat) / 2) ∧ t.avgFail = false) ∧
    t.retained.frameLength = i.frameLength ∧ t.retained.version = i.version ∧
    t.retained.errorCode = i.errorCode ∧ t.retained.checksumValid = i.checksumValid ∧
    t.retained.isError = i.isError) ∧
  (∀ s t : State, exec .syncExtract s = .next t →
    t.retained = (s.average t.rd).retained ∧ t.avgFail = (s.average t.rd).avgFail)

/-- What all four cases share, R116, R117, R119: `combine`, computed by the row the two error flags
select, takes `frameLength`, `version`, `errorCode`, `checksumValid` and `isError` from the incoming
Reading, and the update is reported as failed exactly when both are in error; inside `SYNC.EXTRACT`
the same report goes to `avgFail`.  That the row on its own reports in `avgResult` and leaves the
block's `retained` and `avgFail` alone is the model's reading (log 9). -/
def Obligations.EveryUpdateOverwritesTheOtherFields : Prop :=
  (∀ (s : State) (r i : Reading), s.build.avgEnable = true →
    exec (decodeAvg (avgSelector r i) r i) s =
      .next { s with avgResult := some (combine r i, r.isError && i.isError) }) ∧
  (∀ r i : Reading,
    let q := combine r i
    q.frameLength = i.frameLength ∧ q.version = i.version ∧ q.errorCode = i.errorCode ∧
    q.checksumValid = i.checksumValid ∧ q.isError = i.isError) ∧
  (∀ s t : State, s.build.avgEnable = true → exec .syncExtract s = .next t →
    t.avgFail = (s.retained.isError && t.rd.isError))

/-- What the built block exercises (derivation R121): in a run from reset the first extraction takes
its Reading over whole, every later one averages, and no update fails. -/
def Obligations.FirstExtractionSnapsAndLaterOnesAverage : Prop :=
  ∀ s : State, s.Inv → s.build.avgEnable = true →
    32 ≤ s.buf.length → s.buf[0]? = some 0x42#8 → s.buf[1]? = some 0x4D#8 →
    let r := decodeFrame (s.buf.take 32)
    ∃ t, exec .syncExtract s = .next t ∧ t.avgFail = false ∧ t.retained.isError = false ∧
      (s.out = [] → t.retained = r) ∧
      (s.out ≠ [] → ∀ x, (t.retained.measurement x).toNat =
        ((s.retained.measurement x).toNat + (r.measurement x).toNat) / 2)

/-- A build without the averaging engine (R4, R58): the rows of the engine are no steps of it, and no
other operation touches what the engine would hold. -/
def Obligations.BuildWithoutAveragingHasNoEngine : Prop :=
  ∀ s : State, s.build.avgEnable = false →
    (∀ r i, exec (.avgBothErr r i) s = .refused .unitAbsent ∧
      exec (.avgSnap r i) s = .refused .unitAbsent ∧
      exec (.avgHold r i) s = .refused .unitAbsent ∧
      exec (.avgMean r i) s = .refused .unitAbsent) ∧
    (∀ i t, i ≠ .reset → exec i s = .next t →
      t.retained = s.retained ∧ t.avgFail = s.avgFail ∧ t.avgResult = s.avgResult)

/-- No rule outside the averaging unit depends on it (R4): two states that agree on everything but
the engine's presence, its two registers and its results still do after the same operation, the free
values apart that `RESET` and `DECODE.ERR` draw (log 8). -/
def Obligations.RestOfTheBlockIgnoresTheAverage : Prop :=
  ∀ (i : Instr) (s t s' : State) (enable : Bool) (retained : Reading) (fail : Bool)
    (result : Option (Reading × Bool)),
    exec i s = .next t →
    exec i { s with
      build := { s.build with avgEnable := enable }, retained := retained, avgFail := fail,
      avgResult := result } = .next s' →
    (i ≠ .reset → s'.rd = t.rd) ∧
    ((∀ input, i ≠ .decodeErr input) → s'.decResult = t.decResult) ∧
    s'.decResult.map Reading.isError = t.decResult.map Reading.isError ∧
    s' = { t with
      build := { s.build with avgEnable := enable }, retained := s'.retained,
      avgFail := s'.avgFail, avgResult := s'.avgResult, rd := s'.rd, decResult := s'.decResult }

/-! ## The encoder -/

/-- The five recognised kinds, R128 to R132: the complete 7-byte frame and the expects-reply flag of
each, and the 56-bit value with the two flags at the ports; no state of the block changes.  (The last
result is kept in `encResult`, log 9.) -/
def Obligations.RecognizedKindsEncodeTheirFrames : Prop :=
  ∀ s : State,
    let answered := fun bytes reply => ({ s with encResult := some (.frame bytes reply) } : State)
    let requestData := answered [0x42, 0x4D, 0xE2, 0x00, 0x00, 0x01, 0x71] true
    let makePassive := answered [0x42, 0x4D, 0xE1, 0x00, 0x00, 0x01, 0x70] false
    let makeActive := answered [0x42, 0x4D, 0xE1, 0x00, 0x01, 0x01, 0x71] false
    let sleep := answered [0x42, 0x4D, 0xE4, 0x00, 0x00, 0x01, 0x73] false
    let wakeUp := answered [0x42, 0x4D, 0xE4, 0x00, 0x01, 0x01, 0x74] false
    (exec .encodeRequestData s = .next requestData ∧
      (outputs s requestData).cmd =
        some { bytes := 0x424DE200000171, unknown := false, expectsReply := true }) ∧
    (exec .encodeMakePassive s = .next makePassive ∧
      (outputs s makePassive).cmd =
        some { bytes := 0x424DE100000170, unknown := false, expectsReply := false }) ∧
    (exec .encodeMakeActive s = .next makeActive ∧
      (outputs s makeActive).cmd =
        some { bytes := 0x424DE100010171, unknown := false, expectsReply := false }) ∧
    (exec .encodeSleep s = .next sleep ∧
      (outputs s sleep).cmd =
        some { bytes := 0x424DE400000173, unknown := false, expectsReply := false }) ∧
    (exec .encodeWakeUp s = .next wakeUp ∧
      (outputs s wakeUp).cmd =
        some { bytes := 0x424DE400010174, unknown := false, expectsReply := false })

/-- `ENCODE.UNKNOWN`, R133: for the kind codes without a table entry the result is the error alone,
`cmd_unknown` is 1, and no state of the block changes. -/
def Obligations.UnknownKindProducesNoBytes : Prop :=
  ∀ (s : State) (k : KindCode), 5 ≤ k.toNat →
    ∃ t, exec (.encodeUnknown k) s = .next t ∧
      t.encResult = some .unrecognizedCommand ∧
      t.toBlock = s.toBlock ∧ t.build = s.build ∧ t.sched = s.sched ∧
      t.decResult = s.decResult ∧ t.avgResult = s.avgResult ∧
      (outputs s t).cmd.map CmdOut.unknown = some true

/-- Frame assembly, R126 with R127: for every opcode and operand seven bytes, marker, opcode, operand
high byte first, and the bytewise sum of those five, high byte first. -/
def Obligations.CommandFrameCarriesItsByteSum : Prop :=
  ∀ (opcode : Byte) (operand : U16),
    let c := encodeFrame opcode operand
    c.length = 7 ∧
    c.take 3 = [0x42, 0x4D, opcode] ∧
    (c.getD 3 0).toNat = operand.toNat / 256 ∧ (c.getD 4 0).toNat = operand.toNat % 256 ∧
    (c.getD 5 0).toNat * 256 + (c.getD 6 0).toNat =
      0x42 + 0x4D + opcode.toNat + operand.toNat / 256 + operand.toNat % 256

/-- `ENCODE` is pure, R135: it always answers, its result depends on the kind alone, and it changes no
state of the block. -/
def Obligations.EncodeIsPure : Prop :=
  ∀ (k : KindCode) (s : State),
    ∃ t, exec (decodeKind k) s = .next t ∧ t.toBlock = s.toBlock ∧ t.sched = s.sched ∧
      ∀ s' t' : State, exec (decodeKind k) s' = .next t' → t'.encResult = t.encResult

/-- The command path and the decode path are independent (derivation R40): an `ENCODE` commutes with
every operation as far as the block's state goes; with `RESET` in every field but `rd`, which `RESET`
leaves unspecified. -/
def Obligations.EncodeCommutesWithEveryOperation : Prop :=
  ∀ (k : KindCode) (i : Instr) (s t u : State),
    exec i s = .next t → exec (decodeKind k) s = .next u →
    ∃ v w, exec (decodeKind k) t = .next v ∧ exec i u = .next w ∧
      (i ≠ .reset → v.toBlock = w.toBlock) ∧
      { v.toBlock with rd := w.rd } = w.toBlock

/-! ## The whole block -/

/-- The operations that change the block's state are exactly `PUSH`, `SYNC.EXTRACT`, `SYNC.DISCARD`,
`RXFAIL` and `RESET` (derivation R36). -/
def Obligations.OnlyFiveOperationsChangeTheBlock : Prop :=
  ∀ (i : Instr) (s t : State), exec i s = .next t →
    i = .reset ∨ i = .rxfail ∨ (∃ b, i = .push b) ∨ i = .syncExtract ∨ i = .syncDiscard ∨
      t.toBlock = s.toBlock

/-- The output trace and register, R16: only `SYNC.EXTRACT` emits; it appends one Reading, which is
then in `rd`; every other operation but `RESET` leaves `out`, `rd` and `rdSeen` alone; `RESET` empties
`out` and clears `rdSeen`; and `rd_valid` pulses for exactly the extractions. -/
def Obligations.OnlyExtractionEmits : Prop :=
  ∀ (i : Instr) (s t : State), exec i s = .next t →
    ((outputs s t).rdValid = true ↔ i = .syncExtract) ∧
    (i = .syncExtract → t.out = s.out ++ [t.rd] ∧ t.rdSeen = true) ∧
    (i ≠ .syncExtract → i ≠ .reset → t.out = s.out ∧ t.rd = s.rd ∧ t.rdSeen = s.rdSeen) ∧
    (i = .reset → t.out = [] ∧ t.rdSeen = false)

/-- The accesses to the buffer, R34, and the ghost position, R13: one byte in at the tail, one or 32
bytes out at the head, nothing else, and `pos` counts what left. -/
def Obligations.BufferIsFirstInFirstOut : Prop :=
  ∀ (i : Instr) (s t : State), i ≠ .reset → exec i s = .next t →
    (∃ b, i = .push b ∧ t.buf = s.buf ++ [b] ∧ t.pos = s.pos) ∨
    (i = .syncExtract ∧ t.buf = s.buf.drop 32 ∧ t.pos = s.pos + 32 ∧ 32 ≤ s.buf.length) ∨
    (i = .syncDiscard ∧ t.buf = s.buf.drop 1 ∧ t.pos = s.pos + 1 ∧ 32 ≤ s.buf.length) ∨
    ((∀ b, i ≠ .push b) ∧ i ≠ .syncExtract ∧ i ≠ .syncDiscard ∧ t.buf = s.buf ∧ t.pos = s.pos)

/-- The model's own fields (logs 1, 6, 9): no operation changes the build or the pending requests,
and each function result is written by its own unit alone, `RESET` apart. -/
def Obligations.OperationsWriteOnlyTheirOwnResults : Prop :=
  ∀ (i : Instr) (s t : State), exec i s = .next t →
    t.build = s.build ∧ t.sched = s.sched ∧
    (t.decResult = s.decResult ∨ i = .reset ∨ (∃ f, i = .decode f) ∨ (∃ f, i = .decodeErr f)) ∧
    (t.avgResult = s.avgResult ∨ i = .reset ∨
      ∃ r q, i = .avgBothErr r q ∨ i = .avgSnap r q ∨ i = .avgHold r q ∨ i = .avgMean r q) ∧
    (t.encResult = s.encResult ∨ i = .reset ∨ ∃ k, i = decodeKind k)

/-- `RXFAIL` commutes with every operation but `RESET` (R150), on the whole state, the free value that
`DECODE.ERR` draws apart (log 8). -/
def Obligations.RxfailCommutesWithEveryOperation : Prop :=
  ∀ (i : Instr) (s t u : State), i ≠ .reset → exec i s = .next t → exec .rxfail s = .next u →
    ∃ v answer, ((∀ input, i ≠ .decodeErr input) → answer = v.decResult) ∧
      exec i u = .next v ∧ exec .rxfail t = .next { v with decResult := answer }

/-- `PUSH` commutes with an enabled SYNC step (R150; derivation R82), on the whole state. -/
def Obligations.PushCommutesWithTheSynchronizerStep : Prop :=
  ∀ (b : Byte) (s : State), s.rxReady = true → 32 ≤ s.buf.length →
    let i := decodeSync (syncSelector s.buf)
    ∃ u v w, exec (.push b) s = .next u ∧ exec i s = .next v ∧
      decodeSync (syncSelector u.buf) = i ∧
      exec i u = .next w ∧ exec (.push b) v = .next w

/-- The four anomalies, R140, each in its own flag: the flags of the Reading a decoding operation
returns or emits say which anomaly it raised; an unknown kind is reported in its result and a
transport failure in `closeReq`; the other operations raise none. -/
def Obligations.AnomaliesAreRecordedInTheirFlags : Prop :=
  ∀ (i : Instr) (s t : State), exec i s = .next t →
    (∀ f, i = .decode f ∨ i = .decodeErr f →
      t.decResult.map readingAnomaly = some (raised i s)) ∧
    (i = .syncExtract → readingAnomaly t.rd = raised i s) ∧
    (raised i s = some .unrecognizedCommand ↔ ∃ k, i = .encodeUnknown k) ∧
    (raised i s = some .unrecognizedCommand → t.encResult.map EncResult.cmdUnknown = some true) ∧
    (raised i s = some .transportFailure ↔ i = .rxfail) ∧
    (raised i s = some .transportFailure → t.closeReq = true) ∧
    (raised i s = some .structuralError ↔ ∃ f, i = .decodeErr f) ∧
    (raised i s = some .checksumMismatch ↔
      (∃ f, i = .decode f ∧ sum8 f 0 30 ≠ (be16 f 30).toNat) ∨
      (i = .syncExtract ∧ sum8 (s.buf.take 32) 0 30 ≠ (be16 (s.buf.take 32) 30).toNat)) ∧
    ((∀ f, i ≠ .decode f ∧ i ≠ .decodeErr f) → i ≠ .syncExtract → i ≠ .rxfail →
      (∀ k, i ≠ .encodeUnknown k) → raised i s = none)

/-- Reset establishes the invariant, in every build. -/
def Obligations.ResetSatisfiesTheInvariant : Prop :=
  State.reset.Inv ∧ ∀ b : Build, (State.resetFor b).Inv

/-- Every step keeps the invariant: the buffer within its capacity (R11), `rdSeen` and `rd` the trace's
(R16), no Reading in error emitted (R91), `retained` the fold of `combine` over the trace in arrival
order (R111, R39), no failed update (R121), 32 bytes removed for each Reading (R34). -/
def Obligations.StepKeepsTheInvariant : Prop :=
  ∀ s t : State, s.Inv → step s = .next t → t.Inv

/-- Every step keeps the account of the stream (derivations R80, R82): what is emitted with what the
buffered and still offered bytes determine, the position at which the synchronizer will stop, and the
bytes it will leave.  A step that serves a reset starts a new account: nothing emitted, nothing
removed, nothing buffered, and the requests behind it still offered.  (The pending requests are the
model's, log 1; a byte offered beside `rst` is gone, log 21.) -/
def Obligations.StepKeepsTheStreamAccount : Prop :=
  ∀ s t : State, step s = .next t →
    let before := s.buf ++ pendingBytes s.sched
    let after := t.buf ++ pendingBytes t.sched
    (∃ p rest, s.sched = .cycle p :: rest ∧ p.rst = true ∧
      t.sched = rest ∧ t.buf = [] ∧ t.out = [] ∧ t.pos = 0) ∨
    (t.out ++ streamReadings after = s.out ++ streamReadings before ∧
      t.pos + stopPosition after = s.pos + stopPosition before ∧
      after.drop (stopPosition after) = before.drop (stopPosition before))

/-- Every step lowers the bound on the work that is left, unless nothing is pending and the
synchronizer waits, and then it changes nothing (derivation R78; the bound and the synchronizer's
turn are the model's, log 12). -/
def Obligations.StepLowersTheWorkThatIsLeft : Prop :=
  ∀ s t : State, step s = .next t →
    (s.sched ≠ [] ∨ 32 ≤ s.buf.length → t.work < s.work) ∧
    (s.sched = [] → s.quiescent → t = s)

/-- Hazard R166 (derivation): a session that leaves stale bytes beginning with the marker, followed
without `RESET` by a new one, emits first the frame made of the stale bytes and the head of the
new. -/
def Obligations.StaleBytesHeadTheNextSession : Prop :=
  ∀ (s : State) (new : List Byte), s.quiescent → s.buf[0]? = some 0x42#8 → s.buf[1]? = some 0x4D#8 →
    32 - s.buf.length ≤ new.length →
    ∃ more, (s.feed new).out =
      s.out ++ decodeFrame (s.buf ++ new.take (32 - s.buf.length)) :: more
end

