-- ==== Sys2Proof/Laws/State.lean ====
section
/-! SUPPORT. What each update of the state does to each field: one lemma per field per update. -/

namespace Sys2Proof.Machine

section Updates

variable (s : State)

/-! ### `BufPush` -/

@[simp] theorem State.bufPush_buf (b : Byte) : (s.bufPush b).buf = s.buf ++ [b] := rfl
@[simp] theorem State.bufPush_pos (b : Byte) : (s.bufPush b).pos = s.pos := rfl
@[simp] theorem State.bufPush_out (b : Byte) : (s.bufPush b).out = s.out := rfl
@[simp] theorem State.bufPush_rd (b : Byte) : (s.bufPush b).rd = s.rd := rfl
@[simp] theorem State.bufPush_rdSeen (b : Byte) : (s.bufPush b).rdSeen = s.rdSeen := rfl
@[simp] theorem State.bufPush_closeReq (b : Byte) : (s.bufPush b).closeReq = s.closeReq := rfl
@[simp] theorem State.bufPush_retained (b : Byte) : (s.bufPush b).retained = s.retained := rfl
@[simp] theorem State.bufPush_avgFail (b : Byte) : (s.bufPush b).avgFail = s.avgFail := rfl
@[simp] theorem State.bufPush_build (b : Byte) : (s.bufPush b).build = s.build := rfl
@[simp] theorem State.bufPush_sched (b : Byte) : (s.bufPush b).sched = s.sched := rfl
@[simp] theorem State.bufPush_decResult (b : Byte) : (s.bufPush b).decResult = s.decResult := rfl
@[simp] theorem State.bufPush_avgResult (b : Byte) : (s.bufPush b).avgResult = s.avgResult := rfl
@[simp] theorem State.bufPush_encResult (b : Byte) : (s.bufPush b).encResult = s.encResult := rfl
@[simp] theorem State.bufPush_draws (b : Byte) : (s.bufPush b).draws = s.draws := rfl

/-! ### `BufPop` -/

@[simp] theorem State.bufPop_buf (n : Nat) : (s.bufPop n).buf = s.buf.drop n := rfl
@[simp] theorem State.bufPop_pos (n : Nat) : (s.bufPop n).pos = s.pos + n := rfl
@[simp] theorem State.bufPop_out (n : Nat) : (s.bufPop n).out = s.out := rfl
@[simp] theorem State.bufPop_rd (n : Nat) : (s.bufPop n).rd = s.rd := rfl
@[simp] theorem State.bufPop_rdSeen (n : Nat) : (s.bufPop n).rdSeen = s.rdSeen := rfl
@[simp] theorem State.bufPop_closeReq (n : Nat) : (s.bufPop n).closeReq = s.closeReq := rfl
@[simp] theorem State.bufPop_retained (n : Nat) : (s.bufPop n).retained = s.retained := rfl
@[simp] theorem State.bufPop_avgFail (n : Nat) : (s.bufPop n).avgFail = s.avgFail := rfl
@[simp] theorem State.bufPop_build (n : Nat) : (s.bufPop n).build = s.build := rfl
@[simp] theorem State.bufPop_sched (n : Nat) : (s.bufPop n).sched = s.sched := rfl
@[simp] theorem State.bufPop_decResult (n : Nat) : (s.bufPop n).decResult = s.decResult := rfl
@[simp] theorem State.bufPop_avgResult (n : Nat) : (s.bufPop n).avgResult = s.avgResult := rfl
@[simp] theorem State.bufPop_encResult (n : Nat) : (s.bufPop n).encResult = s.encResult := rfl
@[simp] theorem State.bufPop_draws (n : Nat) : (s.bufPop n).draws = s.draws := rfl

/-! ### `Emit` -/

@[simp] theorem State.emit_buf (r : Reading) : (s.emit r).buf = s.buf := rfl
@[simp] theorem State.emit_pos (r : Reading) : (s.emit r).pos = s.pos := rfl
@[simp] theorem State.emit_out (r : Reading) : (s.emit r).out = s.out ++ [r] := rfl
@[simp] theorem State.emit_rd (r : Reading) : (s.emit r).rd = r := rfl
@[simp] theorem State.emit_rdSeen (r : Reading) : (s.emit r).rdSeen = true := rfl
@[simp] theorem State.emit_closeReq (r : Reading) : (s.emit r).closeReq = s.closeReq := rfl
@[simp] theorem State.emit_retained (r : Reading) : (s.emit r).retained = s.retained := rfl
@[simp] theorem State.emit_avgFail (r : Reading) : (s.emit r).avgFail = s.avgFail := rfl
@[simp] theorem State.emit_build (r : Reading) : (s.emit r).build = s.build := rfl
@[simp] theorem State.emit_sched (r : Reading) : (s.emit r).sched = s.sched := rfl
@[simp] theorem State.emit_decResult (r : Reading) : (s.emit r).decResult = s.decResult := rfl
@[simp] theorem State.emit_avgResult (r : Reading) : (s.emit r).avgResult = s.avgResult := rfl
@[simp] theorem State.emit_encResult (r : Reading) : (s.emit r).encResult = s.encResult := rfl
@[simp] theorem State.emit_draws (r : Reading) : (s.emit r).draws = s.draws := rfl

/-! ### `flag TransportFailure` -/

@[simp] theorem State.requestClose_buf : (s.requestClose).buf = s.buf := rfl
@[simp] theorem State.requestClose_pos : (s.requestClose).pos = s.pos := rfl
@[simp] theorem State.requestClose_out : (s.requestClose).out = s.out := rfl
@[simp] theorem State.requestClose_rd : (s.requestClose).rd = s.rd := rfl
@[simp] theorem State.requestClose_rdSeen : (s.requestClose).rdSeen = s.rdSeen := rfl
@[simp] theorem State.requestClose_closeReq : (s.requestClose).closeReq = true := rfl
@[simp] theorem State.requestClose_retained : (s.requestClose).retained = s.retained := rfl
@[simp] theorem State.requestClose_avgFail : (s.requestClose).avgFail = s.avgFail := rfl
@[simp] theorem State.requestClose_build : (s.requestClose).build = s.build := rfl
@[simp] theorem State.requestClose_sched : (s.requestClose).sched = s.sched := rfl
@[simp] theorem State.requestClose_decResult : (s.requestClose).decResult = s.decResult := rfl
@[simp] theorem State.requestClose_avgResult : (s.requestClose).avgResult = s.avgResult := rfl
@[simp] theorem State.requestClose_encResult : (s.requestClose).encResult = s.encResult := rfl
@[simp] theorem State.requestClose_draws : (s.requestClose).draws = s.draws := rfl

/-! ### the whole reset -/

@[simp] theorem State.resetBlock_buf : (s.resetBlock).buf = [] := rfl
@[simp] theorem State.resetBlock_pos : (s.resetBlock).pos = 0 := rfl
@[simp] theorem State.resetBlock_out : (s.resetBlock).out = [] := rfl
@[simp] theorem State.resetBlock_rd : (s.resetBlock).rd = Config.rdAfterReset s.draws := rfl
@[simp] theorem State.resetBlock_rdSeen : (s.resetBlock).rdSeen = false := rfl
@[simp] theorem State.resetBlock_closeReq : (s.resetBlock).closeReq = false := rfl
@[simp] theorem State.resetBlock_retained : (s.resetBlock).retained = retainedReset := rfl
@[simp] theorem State.resetBlock_avgFail : (s.resetBlock).avgFail = false := rfl
@[simp] theorem State.resetBlock_build : (s.resetBlock).build = s.build := rfl
@[simp] theorem State.resetBlock_sched : (s.resetBlock).sched = s.sched := rfl
@[simp] theorem State.resetBlock_decResult : (s.resetBlock).decResult = none := rfl
@[simp] theorem State.resetBlock_avgResult : (s.resetBlock).avgResult = none := rfl
@[simp] theorem State.resetBlock_encResult : (s.resetBlock).encResult = none := rfl
@[simp] theorem State.resetBlock_draws : (s.resetBlock).draws = s.draws + 1 := rfl

/-! ### an answer of DEC -/

@[simp] theorem State.answerDecoder_buf (r : Reading) : (s.answerDecoder r).buf = s.buf := rfl
@[simp] theorem State.answerDecoder_pos (r : Reading) : (s.answerDecoder r).pos = s.pos := rfl
@[simp] theorem State.answerDecoder_out (r : Reading) : (s.answerDecoder r).out = s.out := rfl
@[simp] theorem State.answerDecoder_rd (r : Reading) : (s.answerDecoder r).rd = s.rd := rfl
@[simp] theorem State.answerDecoder_rdSeen (r : Reading) : (s.answerDecoder r).rdSeen = s.rdSeen := rfl
@[simp] theorem State.answerDecoder_closeReq (r : Reading) : (s.answerDecoder r).closeReq = s.closeReq := rfl
@[simp] theorem State.answerDecoder_retained (r : Reading) : (s.answerDecoder r).retained = s.retained := rfl
@[simp] theorem State.answerDecoder_avgFail (r : Reading) : (s.answerDecoder r).avgFail = s.avgFail := rfl
@[simp] theorem State.answerDecoder_build (r : Reading) : (s.answerDecoder r).build = s.build := rfl
@[simp] theorem State.answerDecoder_sched (r : Reading) : (s.answerDecoder r).sched = s.sched := rfl
@[simp] theorem State.answerDecoder_decResult (r : Reading) : (s.answerDecoder r).decResult = some r := rfl
@[simp] theorem State.answerDecoder_avgResult (r : Reading) : (s.answerDecoder r).avgResult = s.avgResult := rfl
@[simp] theorem State.answerDecoder_encResult (r : Reading) : (s.answerDecoder r).encResult = s.encResult := rfl
@[simp] theorem State.answerDecoder_draws (r : Reading) : (s.answerDecoder r).draws = s.draws := rfl

/-! ### an answer of ENC -/

@[simp] theorem State.answerEncoder_buf (r : EncResult) : (s.answerEncoder r).buf = s.buf := rfl
@[simp] theorem State.answerEncoder_pos (r : EncResult) : (s.answerEncoder r).pos = s.pos := rfl
@[simp] theorem State.answerEncoder_out (r : EncResult) : (s.answerEncoder r).out = s.out := rfl
@[simp] theorem State.answerEncoder_rd (r : EncResult) : (s.answerEncoder r).rd = s.rd := rfl
@[simp] theorem State.answerEncoder_rdSeen (r : EncResult) : (s.answerEncoder r).rdSeen = s.rdSeen := rfl
@[simp] theorem State.answerEncoder_closeReq (r : EncResult) : (s.answerEncoder r).closeReq = s.closeReq := rfl
@[simp] theorem State.answerEncoder_retained (r : EncResult) : (s.answerEncoder r).retained = s.retained := rfl
@[simp] theorem State.answerEncoder_avgFail (r : EncResult) : (s.answerEncoder r).avgFail = s.avgFail := rfl
@[simp] theorem State.answerEncoder_build (r : EncResult) : (s.answerEncoder r).build = s.build := rfl
@[simp] theorem State.answerEncoder_sched (r : EncResult) : (s.answerEncoder r).sched = s.sched := rfl
@[simp] theorem State.answerEncoder_decResult (r : EncResult) : (s.answerEncoder r).decResult = s.decResult := rfl
@[simp] theorem State.answerEncoder_avgResult (r : EncResult) : (s.answerEncoder r).avgResult = s.avgResult := rfl
@[simp] theorem State.answerEncoder_encResult (r : EncResult) : (s.answerEncoder r).encResult = some r := rfl
@[simp] theorem State.answerEncoder_draws (r : EncResult) : (s.answerEncoder r).draws = s.draws := rfl

/-! ### Updates of the model's own fields leave the block alone -/

@[simp] theorem State.answerDecoder_block (r : Reading) :
    (s.answerDecoder r).toBlock = s.toBlock := rfl
@[simp] theorem State.answerEncoder_block (r : EncResult) :
    (s.answerEncoder r).toBlock = s.toBlock := rfl
@[simp] theorem State.advance_block : s.advance.toBlock = s.toBlock := rfl
@[simp] theorem State.advance_build : s.advance.build = s.build := rfl
@[simp] theorem State.advance_decResult : s.advance.decResult = s.decResult := rfl
@[simp] theorem State.advance_avgResult : s.advance.avgResult = s.avgResult := rfl
@[simp] theorem State.advance_encResult : s.advance.encResult = s.encResult := rfl
@[simp] theorem State.advance_draws : s.advance.draws = s.draws := rfl

/-! ### The averaging update -/


@[simp] theorem State.average_buf (r : Reading) : (s.average r).buf = s.buf := rfl
@[simp] theorem State.average_pos (r : Reading) : (s.average r).pos = s.pos := rfl
@[simp] theorem State.average_out (r : Reading) : (s.average r).out = s.out := rfl
@[simp] theorem State.average_rd (r : Reading) : (s.average r).rd = s.rd := rfl
@[simp] theorem State.average_rdSeen (r : Reading) : (s.average r).rdSeen = s.rdSeen := rfl
@[simp] theorem State.average_closeReq (r : Reading) : (s.average r).closeReq = s.closeReq := rfl
@[simp] theorem State.average_retained (r : Reading) :
    (s.average r).retained = if s.build.avgEnable then combine s.retained r else s.retained := rfl
@[simp] theorem State.average_avgFail (r : Reading) :
    (s.average r).avgFail = if s.build.avgEnable then updateFailed s.retained r else s.avgFail := rfl
@[simp] theorem State.average_build (r : Reading) : (s.average r).build = s.build := rfl
@[simp] theorem State.average_sched (r : Reading) : (s.average r).sched = s.sched := rfl
@[simp] theorem State.average_decResult (r : Reading) : (s.average r).decResult = s.decResult := rfl
@[simp] theorem State.average_avgResult (r : Reading) : (s.average r).avgResult = s.avgResult := rfl
@[simp] theorem State.average_encResult (r : Reading) : (s.average r).encResult = s.encResult := rfl
@[simp] theorem State.average_draws (r : Reading) : (s.average r).draws = s.draws := rfl

/-! ### The synchronizer's two steps -/

@[simp] theorem State.extract_buf :
    s.extract.buf = s.buf.drop 32 := rfl
@[simp] theorem State.extract_pos :
    s.extract.pos = s.pos + 32 := rfl
@[simp] theorem State.extract_out :
    s.extract.out = s.out ++ [decodeFrame s.candidate] := rfl
@[simp] theorem State.extract_rd :
    s.extract.rd = decodeFrame s.candidate := rfl
@[simp] theorem State.extract_rdSeen :
    s.extract.rdSeen = true := rfl
@[simp] theorem State.extract_closeReq :
    s.extract.closeReq = s.closeReq := rfl
@[simp] theorem State.extract_retained :
    s.extract.retained = if s.build.avgEnable then combine s.retained (decodeFrame s.candidate) else s.retained := rfl
@[simp] theorem State.extract_avgFail :
    s.extract.avgFail = if s.build.avgEnable then updateFailed s.retained (decodeFrame s.candidate) else s.avgFail := rfl
@[simp] theorem State.extract_build :
    s.extract.build = s.build := rfl
@[simp] theorem State.extract_sched :
    s.extract.sched = s.sched := rfl
@[simp] theorem State.extract_decResult :
    s.extract.decResult = s.decResult := rfl
@[simp] theorem State.extract_avgResult :
    s.extract.avgResult = s.avgResult := rfl
@[simp] theorem State.extract_encResult :
    s.extract.encResult = s.encResult := rfl
@[simp] theorem State.extract_draws :
    s.extract.draws = s.draws := rfl

@[simp] theorem State.discard_buf : s.discard.buf = s.buf.drop 1 := rfl
@[simp] theorem State.discard_pos : s.discard.pos = s.pos + 1 := rfl
@[simp] theorem State.discard_out : s.discard.out = s.out := rfl
@[simp] theorem State.discard_rd : s.discard.rd = s.rd := rfl
@[simp] theorem State.discard_rdSeen : s.discard.rdSeen = s.rdSeen := rfl
@[simp] theorem State.discard_closeReq : s.discard.closeReq = s.closeReq := rfl
@[simp] theorem State.discard_retained : s.discard.retained = s.retained := rfl
@[simp] theorem State.discard_avgFail : s.discard.avgFail = s.avgFail := rfl
@[simp] theorem State.discard_build : s.discard.build = s.build := rfl
@[simp] theorem State.discard_sched : s.discard.sched = s.sched := rfl
@[simp] theorem State.discard_decResult : s.discard.decResult = s.decResult := rfl
@[simp] theorem State.discard_avgResult : s.discard.avgResult = s.avgResult := rfl
@[simp] theorem State.discard_encResult : s.discard.encResult = s.encResult := rfl
@[simp] theorem State.discard_draws : s.discard.draws = s.draws := rfl

end Updates

end Sys2Proof.Machine
end

