-- ==== Sys2Proof/Laws/Ops.lean ====
section
/-! SUPPORT. One lemma for each shared operation that says once what it does. -/

namespace Sys2Proof

/-! ### Byte order -/

/-- The big-endian value of two bytes as a number (R31). -/
theorem be16_toNat (s : List Byte) (k : Nat) :
    (be16 s k).toNat = (s.getD k 0).toNat * 256 + (s.getD (k + 1) 0).toNat := by
  have h : (s.getD (k + 1) 0).toNat < 2 ^ 8 := (s.getD (k + 1) 0).isLt
  rw [be16, BitVec.toNat_append, ← Nat.shiftLeft_add_eq_or_of_lt h, Nat.shiftLeft_eq]

/-- "`be16` of the sequence `[hi8(v), lo8(v)]` is `v`" (00_scope.md §6.2). -/
theorem hi8_append_lo8 (v : U16) : (hi8 v ++ lo8 v : BitVec 16) = v := by
  apply BitVec.eq_of_toNat_eq
  have := v.isLt
  rw [BitVec.toNat_append, ← Nat.shiftLeft_add_eq_or_of_lt (lo8 v).isLt, Nat.shiftLeft_eq]
  simp only [hi8, lo8, BitVec.extractLsb'_toNat, Nat.shiftRight_eq_div_pow]
  omega

/-! ### Selectors -/

/-- The marker test on the first two bytes (R75). -/
theorem hasMarker_iff (s : List Byte) :
    hasMarker s = true ↔ s[0]? = some 0x42#8 ∧ s[1]? = some 0x4D#8 := by
  simp [hasMarker, Config.marker0, Config.marker1]

/-- The decoder's input test (R59). -/
theorem decoderSelects_iff (s : List Byte) :
    decoderSelects s = true ↔ s.length = 32 ∧ hasMarker s = true := by
  simp [decoderSelects, Config.frameSize]

/-- The four values of the averaging selector (R58). -/
theorem avgSelector_cases (r i : Reading) :
    avgSelector r i =
      match r.isError, i.isError with
      | true, true => 0b11#2
      | true, false => 0b10#2
      | false, true => 0b01#2
      | false, false => 0b00#2 := by
  unfold avgSelector
  cases r.isError <;> cases i.isError <;> rfl

namespace Machine

theorem syncOutcome_wait_iff (buf : List Byte) : syncOutcome buf = .wait ↔ buf.length < 32 := by
  unfold syncOutcome
  split_ifs <;> simp_all

theorem syncOutcome_extract_iff (buf : List Byte) :
    syncOutcome buf = .extract ↔ 32 ≤ buf.length ∧ hasMarker buf = true := by
  unfold syncOutcome
  split_ifs <;> simp_all

theorem syncOutcome_discard_iff (buf : List Byte) :
    syncOutcome buf = .discard ↔ 32 ≤ buf.length ∧ hasMarker buf = false := by
  unfold syncOutcome
  split_ifs <;> simp_all

/-! ### The buffer keeps its form -/

/-- `BufPush` keeps the buffer within its capacity where a byte fits (R37). -/
theorem State.bufPush_fits (s : State) (b : Byte) (h : s.rxReady = true) :
    (s.bufPush b).bufFits = true := by
  unfold State.rxReady capAdmits at h
  unfold State.bufFits
  simp only [State.bufPush_build, State.bufPush_buf]
  split <;> simp_all [Config.frameSize]

/-- `BufPop` keeps the buffer within its capacity. -/
theorem State.bufPop_fits (s : State) (n : Nat) (h : s.bufFits = true) :
    (s.bufPop n).bufFits = true := by
  unfold State.bufFits at *
  simp only [State.bufPop_build, State.bufPop_buf]
  split <;> simp_all [Config.frameSize]
  omega

/-- `RESET` leaves a buffer within its capacity. -/
theorem State.resetBlock_fits (s : State) : s.resetBlock.bufFits = true := by
  unfold State.bufFits
  simp only [State.resetBlock_build, State.resetBlock_buf]
  split <;> simp

/-- A full buffer enables a synchronizer step (R37). -/
theorem State.full_enables_sync (s : State) (h : s.rxReady = false) : 32 ≤ s.buf.length := by
  unfold State.rxReady capAdmits at h
  split at h <;> simp_all [Config.frameSize]
  omega

/-! ### Meanings -/

/-- A function call of the averaging engine: what it answers where it answers at all (R58, R119). -/
theorem answerAverage_next {sel : BitVec 2} {result r i : Reading} {s t : State}
    (h : answerAverage sel result r i s = .next t) :
    s.build.avgEnable = true ∧ avgSelector r i = sel ∧
      t = { s with avgResult := some (result, updateFailed r i) } := by
  unfold answerAverage at h
  split at h
  · cases h
  · split at h
    · rename_i h1 h2
      exact ⟨by simpa using h1, h2, by cases h; rfl⟩
    · cases h

/-- The mean of two fields is the exact sum halved and truncated (R115). -/
theorem mean16_toNat (a b : U16) : (mean16 a b).toNat = (a.toNat + b.toNat) / 2 := by
  have := a.isLt
  have := b.isLt
  simp only [mean16, BitVec.extractLsb'_toNat, BitVec.toNat_add, BitVec.toNat_setWidth,
    Nat.shiftRight_eq_div_pow]
  omega

/-- `combine` takes everything but the measurement fields from the incoming Reading (R116, R117). -/
theorem combine_others (r i : Reading) :
    (combine r i).frameLength = i.frameLength ∧ (combine r i).version = i.version ∧
      (combine r i).errorCode = i.errorCode ∧ (combine r i).checksumValid = i.checksumValid ∧
      (combine r i).isError = i.isError := by
  unfold combine
  split <;> exact ⟨rfl, rfl, rfl, rfl, rfl⟩

/-- What every operation does when it runs: its condition and its next state, one clause for each
constructor of `Instr`. -/
inductive Ran (s : State) : Instr → State → Prop
  | reset : Ran s .reset s.resetBlock
  | rxfail : Ran s .rxfail s.requestClose
  | push (b : Byte) (h : s.rxReady = true) : Ran s (.push b) (s.bufPush b)
  | syncWait (h : syncOutcome s.buf = .wait) : Ran s .syncWait s
  | syncExtract (h : syncOutcome s.buf = .extract) : Ran s .syncExtract s.extract
  | syncDiscard (h : syncOutcome s.buf = .discard) : Ran s .syncDiscard s.discard
  | decode (f : List Byte) (h : decoderSelects f = true) :
      Ran s (.decode f) (s.answerDecoder (decodeFrame f))
  | decodeErr (input : List Byte) (h : decoderSelects input = false) :
      Ran s (.decodeErr input)
        { s with decResult := some (errorReading s.draws), draws := s.draws + 1 }
  | avgBothErr (r i : Reading) (on : s.build.avgEnable = true) (h : avgSelector r i = 0b11) :
      Ran s (.avgBothErr r i)
        { s with avgResult := some (combineBothErr r i, updateFailed r i) }
  | avgSnap (r i : Reading) (on : s.build.avgEnable = true) (h : avgSelector r i = 0b10) :
      Ran s (.avgSnap r i) { s with avgResult := some (combineSnap r i, updateFailed r i) }
  | avgHold (r i : Reading) (on : s.build.avgEnable = true) (h : avgSelector r i = 0b01) :
      Ran s (.avgHold r i) { s with avgResult := some (combineHold r i, updateFailed r i) }
  | avgMean (r i : Reading) (on : s.build.avgEnable = true) (h : avgSelector r i = 0b00) :
      Ran s (.avgMean r i) { s with avgResult := some (combineMean r i, updateFailed r i) }
  | encodeRequestData : Ran s .encodeRequestData (s.answerEncoder (encodeKind .requestData))
  | encodeMakePassive : Ran s .encodeMakePassive (s.answerEncoder (encodeKind .makePassive))
  | encodeMakeActive : Ran s .encodeMakeActive (s.answerEncoder (encodeKind .makeActive))
  | encodeSleep : Ran s .encodeSleep (s.answerEncoder (encodeKind .sleep))
  | encodeWakeUp : Ran s .encodeWakeUp (s.answerEncoder (encodeKind .wakeUp))
  | encodeUnknown (k : KindCode) (h : 5 ≤ k.toNat) :
      Ran s (.encodeUnknown k)
        { s with encResult := some .unrecognizedCommand, draws := s.draws + 1 }

/-- An operation that is a step: the state it leads to. -/
theorem Ran.exec_eq {i : Instr} {s t : State} (h : Ran s i t) : exec i s = .next t := by
  cases h <;>
    simp_all [exec, execReset, execRxfail, execPush, execSyncWait, execSyncExtract,
      execSyncDiscard, execDecode, execDecodeErr, execAvgBothErr, execAvgSnap, execAvgHold,
      execAvgMean, answerAverage, execEncodeRequestData, execEncodeMakePassive,
      execEncodeMakeActive, execEncodeSleep, execEncodeWakeUp, execEncodeUnknown]

/-- Everything an operation that answers a next state can have done. -/
theorem ran_of_exec {i : Instr} {s t : State} (h : exec i s = .next t) : Ran s i t := by
  cases i with
  | reset => cases h; exact .reset
  | rxfail => cases h; exact .rxfail
  | push b =>
    rw [exec, execPush] at h
    split at h
    · cases h; exact .push b ‹_›
    · cases h
  | syncWait =>
    rw [exec, execSyncWait] at h
    split at h
    · cases h; exact .syncWait ‹_›
    · cases h
  | syncExtract =>
    rw [exec, execSyncExtract] at h
    split at h
    · cases h; exact .syncExtract ‹_›
    · cases h
  | syncDiscard =>
    rw [exec, execSyncDiscard] at h
    split at h
    · cases h; exact .syncDiscard ‹_›
    · cases h
  | decode f =>
    rw [exec, execDecode] at h
    split at h
    · cases h; exact .decode f ‹_›
    · cases h
  | decodeErr input =>
    rw [exec, execDecodeErr] at h
    split at h
    · cases h
    · cases h; exact .decodeErr input (by simpa using ‹¬decoderSelects input = true›)
  | avgBothErr r i => obtain ⟨on, sel, rfl⟩ := answerAverage_next h; exact .avgBothErr r i on sel
  | avgSnap r i => obtain ⟨on, sel, rfl⟩ := answerAverage_next h; exact .avgSnap r i on sel
  | avgHold r i => obtain ⟨on, sel, rfl⟩ := answerAverage_next h; exact .avgHold r i on sel
  | avgMean r i => obtain ⟨on, sel, rfl⟩ := answerAverage_next h; exact .avgMean r i on sel
  | encodeRequestData => cases h; exact .encodeRequestData
  | encodeMakePassive => cases h; exact .encodeMakePassive
  | encodeMakeActive => cases h; exact .encodeMakeActive
  | encodeSleep => cases h; exact .encodeSleep
  | encodeWakeUp => cases h; exact .encodeWakeUp
  | encodeUnknown k =>
    rw [exec, execEncodeUnknown] at h
    split at h
    · cases h; exact .encodeUnknown k ‹_›
    · cases h

/-- `exec` answers exactly what `Ran` says. -/
theorem exec_next_iff {i : Instr} {s t : State} : exec i s = .next t ↔ Ran s i t :=
  ⟨ran_of_exec, Ran.exec_eq⟩

/-- Every `ENCODE` request is answered, and only the encoder's result and the draw counter change
(R135). -/
theorem exec_decodeKind (k : KindCode) (s : State) :
    ∃ result draws, exec (decodeKind k) s = .next { s with encResult := some result, draws := draws } := by
  by_cases h : 5 ≤ k.toNat
  · have unknown : decodeKind k = .encodeUnknown k := by
      unfold decodeKind
      split <;> first | rfl | omega
    exact ⟨_, _, by rw [unknown]; exact (Ran.encodeUnknown k h).exec_eq⟩
  · unfold decodeKind
    split <;> first | exact ⟨_, s.draws, rfl⟩ | skip
    have := k.isLt
    simp only [imp_false] at *
    omega

end Machine

end Sys2Proof
end

