-- ==== Sys2Proof/Laws/Decode.lean ====
section
/-! SUPPORT. What the decoder reads from the words of each format, and the round trip of a
Reading's operand bytes. -/

namespace Sys2Proof

@[simp] theorem firstByte_format (format sel : BitVec 4) :
    (firstByte format sel).extractLsb' 4 4 = format := by
  revert format sel
  decide

@[simp] theorem firstByte_selector (format sel : BitVec 4) :
    (firstByte format sel).extractLsb' 0 4 = sel := by
  revert format sel
  decide

/-- A `PORT` word decodes by its strobes (R60). -/
theorem decode_portWord (strobes : BitVec 4) (data : Byte) (kind : KindCode) :
    decode (portWord strobes data kind) = decodePort strobes data kind := by
  have reserved : (0#5 ++ kind : BitVec 8).extractLsb' 3 5 = 0 := by
    revert kind
    decide
  have code : (0#5 ++ kind : BitVec 8).extractLsb' 0 3 = kind := by
    revert kind
    decide
  simp only [decode, portWord, firstByte_format, firstByte_selector]
  simp [reserved, code]

/-- A `SYNCSEL` word decodes by its selector (R57). -/
theorem decode_syncWord (sel : BitVec 2) : decode (syncWord sel) = .ok (decodeSync sel) := by
  revert sel
  decide

/-- A `DATA32` word decodes by its bytes (R59). -/
theorem decode_dataWord (s : List Byte) : decode (dataWord s) = .ok (decodeData s) := by
  simp only [decode, dataWord, firstByte_format, firstByte_selector]
  simp

/-- The flag byte of a Reading's operand bytes holds the two flags and nothing else. -/
theorem flagByte_fields (c e : Bool) :
    (0#6 ++ BitVec.ofBool c ++ BitVec.ofBool e : BitVec 8).extractLsb' 2 6 = 0 ∧
      (0#6 ++ BitVec.ofBool c ++ BitVec.ofBool e : BitVec 8).getLsbD 1 = c ∧
      (0#6 ++ BitVec.ofBool c ++ BitVec.ofBool e : BitVec 8).getLsbD 0 = e := by
  revert c e
  decide

theorem Reading.toBytes_length (r : Reading) : r.toBytes.length = 29 := rfl

/-- A Reading is read back from its operand bytes. -/
theorem Reading.ofBytes_toBytes (r : Reading) : Reading.ofBytes r.toBytes = some r := by
  obtain ⟨reserved, valid, error⟩ := flagByte_fields r.checksumValid r.isError
  simp only [Reading.ofBytes, Reading.toBytes, be16, List.getD_cons_succ, List.getD_cons_zero,
    hi8_append_lo8, List.length_cons, List.length_nil, reserved, valid, error]
  simp

/-- An `AVGSEL` word decodes by the error flags of its operands (R58). -/
theorem decode_avgWord (r i : Reading) :
    decode (avgWord r i) = .ok (decodeAvg (avgSelector r i) r i) := by
  have first : (r.toBytes ++ i.toBytes).take 29 = r.toBytes := by
    rw [← r.toBytes_length, List.take_left]
  have second : (r.toBytes ++ i.toBytes).drop 29 = i.toBytes := by
    rw [← r.toBytes_length, List.drop_left]
  simp only [decode, avgWord, firstByte_format, firstByte_selector]
  simp [decodeAvgWord, first, second, Reading.ofBytes_toBytes]

end Sys2Proof
end

