-- ==== Sys2Proof/Laws/PerInstr.lean ====
section
/-! SUPPORT. Families of statements made for each constructor of `Instr`. -/

namespace Sys2Proof

/-- The format of the table's row that a constructor stands for, as the high nibble of its word
(spec/opcode_table.json, column "format"; the nibble is the model's, notes/assumptions/3.md). -/
def Instr.format : Instr → BitVec 4
  | .reset => 0
  | .rxfail => 0
  | .push _ => 0
  | .syncWait => 1
  | .syncExtract => 1
  | .syncDiscard => 1
  | .decode _ => 3
  | .decodeErr _ => 3
  | .avgBothErr _ _ => 2
  | .avgSnap _ _ => 2
  | .avgHold _ _ => 2
  | .avgMean _ _ => 2
  | .encodeRequestData => 4
  | .encodeMakePassive => 4
  | .encodeMakeActive => 4
  | .encodeSleep => 4
  | .encodeWakeUp => 4
  | .encodeUnknown _ => 4

namespace Laws.EncodedFormat

/-- The encoder writes the operation's format into the high nibble of the first byte. -/
def Statement (i : Instr) : Prop :=
  ∃ sel operands, encode i = firstByte i.format sel :: operands

theorem reset : Statement .reset := ⟨_, _, rfl⟩
theorem rxfail : Statement .rxfail := ⟨_, _, rfl⟩
theorem push (b : Byte) : Statement (.push b) := ⟨_, _, rfl⟩
theorem syncWait : Statement .syncWait := ⟨_, _, rfl⟩
theorem syncExtract : Statement .syncExtract := ⟨_, _, rfl⟩
theorem syncDiscard : Statement .syncDiscard := ⟨_, _, rfl⟩
theorem decode (f : List Byte) : Statement (.decode f) := ⟨_, _, rfl⟩
theorem decodeErr (s : List Byte) : Statement (.decodeErr s) := ⟨_, _, rfl⟩
theorem avgBothErr (r i : Reading) : Statement (.avgBothErr r i) := ⟨_, _, rfl⟩
theorem avgSnap (r i : Reading) : Statement (.avgSnap r i) := ⟨_, _, rfl⟩
theorem avgHold (r i : Reading) : Statement (.avgHold r i) := ⟨_, _, rfl⟩
theorem avgMean (r i : Reading) : Statement (.avgMean r i) := ⟨_, _, rfl⟩
theorem encodeRequestData : Statement .encodeRequestData := ⟨_, _, rfl⟩
theorem encodeMakePassive : Statement .encodeMakePassive := ⟨_, _, rfl⟩
theorem encodeMakeActive : Statement .encodeMakeActive := ⟨_, _, rfl⟩
theorem encodeSleep : Statement .encodeSleep := ⟨_, _, rfl⟩
theorem encodeWakeUp : Statement .encodeWakeUp := ⟨_, _, rfl⟩
theorem encodeUnknown (k : KindCode) : Statement (.encodeUnknown k) := ⟨_, _, rfl⟩

end Laws.EncodedFormat

end Sys2Proof
end

