-- ==== Sys2Proof/Tests/Slice0.lean ====
section
/-! SUPPORT. Tests: the well-formedness smoke tests, words written out from the spec's encodings, one
step of each operation on the spec's own vectors (95_test_vectors.md), and a witness for every
statement that has hypotheses. -/

namespace Sys2Proof.Tests

open Sys2Proof Sys2Proof.Machine

/-! ### Helpers -/

/-- The state an operation answers, if it answers one. -/
def stateOf (o : Host.Outcome State Fault Refusal) : Option State :=
  match o with
  | .next s => some s
  | .fault _ => none
  | .refused _ => none

/-- Whether an operation is refused for the given reason. -/
def refusedWith (r : Refusal) (o : Host.Outcome State Fault Refusal) : Bool :=
  match o with
  | .next _ => false
  | .fault _ => false
  | .refused q => r == q

/-- The reset state with these bytes buffered. -/
def holding (buf : List Byte) : State := { State.reset with buf := buf }

/-- A Reading whose 12 measurement fields are all `x`. -/
def sample (x : U16) (isError : Bool) : Reading :=
  { Reading.zeros true isError with
    stdPm1 := x, stdPm25 := x, stdPm10 := x, atmPm1 := x, atmPm25 := x, atmPm10 := x,
    rawCount03 := x, rawCount05 := x, rawCount1 := x, rawCount25 := x, rawCount5 := x,
    rawCount10 := x }

/-- Frame `FA` of 95_test_vectors.md. -/
def frameFA : List Byte :=
  [0x42, 0x4D, 0x00, 0x1C, 0x00, 0x0A, 0x00, 0x32, 0x00, 0x3C, 0x00, 0x09, 0x00, 0x2D, 0x00, 0x37,
    0x04, 0xB0, 0x01, 0x5E, 0x00, 0x50, 0x00, 0x0C, 0x00, 0x03, 0x00, 0x01, 0x97, 0x00, 0x03, 0x9A]

/-- The Reading of `FA` in 95_test_vectors.md. -/
def readingFA : Reading :=
  { frameLength := 28, stdPm1 := 10, stdPm25 := 50, stdPm10 := 60, atmPm1 := 9, atmPm25 := 45,
    atmPm10 := 55, rawCount03 := 1200, rawCount05 := 350, rawCount1 := 80, rawCount25 := 12,
    rawCount5 := 3, rawCount10 := 1, version := 0x97, errorCode := 0, checksumValid := true,
    isError := false }

/-- A frame of the marker and thirty zero bytes: its checksum fails. -/
def frameOfZeros : List Byte := 0x42 :: 0x4D :: List.replicate 30 0

/-! ### Well-formedness refuses an ill-formed term of each kind -/

theorem test_wellFormed_decode : Instr.wellFormed (.decode [0x42, 0x4D]) = false := by decide

theorem test_wellFormed_decodeErr : Instr.wellFormed (.decodeErr frameFA) = false := by decide

theorem test_wellFormed_avgBothErr :
    Instr.wellFormed (.avgBothErr (sample 1 true) (sample 1 false)) = false := by decide

theorem test_wellFormed_avgSnap :
    Instr.wellFormed (.avgSnap (sample 1 false) (sample 1 false)) = false := by decide

theorem test_wellFormed_avgHold :
    Instr.wellFormed (.avgHold (sample 1 true) (sample 1 true)) = false := by decide

theorem test_wellFormed_avgMean :
    Instr.wellFormed (.avgMean (sample 1 false) (sample 1 true)) = false := by decide

theorem test_wellFormed_encodeUnknown : Instr.wellFormed (.encodeUnknown 4) = false := by decide

/-! ### Words, bit by bit from the encodings of 30_encoding.md (format nibble: log 3) -/

/-- R60: strobes `1fpc`, the others ignored. -/
theorem test_word_reset :
    decode [0b00001000, 0x00, 0x00] = .ok .reset ∧ decode [0b00001111, 0x42, 0x07] = .ok .reset := by
  decide

/-- R60: strobes `01pc`. -/
theorem test_word_rxfail : decode [0b00000100, 0x00, 0x00] = .ok .rxfail := by decide

/-- R60: strobes `0f1c`. -/
theorem test_word_push : decode [0b00000010, 0xA5, 0x00] = .ok (.push 0xA5) := by decide

/-- R60 with R56: strobe `cmd_req` and kind code 6. -/
theorem test_word_port_command :
    decode [0b00000001, 0x00, 0b00000110] = .ok (.encodeUnknown 6) := by decide

/-- R57: `0m`. -/
theorem test_word_syncWait :
    decode [0b00010000] = .ok .syncWait ∧ decode [0b00010001] = .ok .syncWait := by decide

/-- R57: `11`. -/
theorem test_word_syncExtract : decode [0b00010011] = .ok .syncExtract := by decide

/-- R57: `10`. -/
theorem test_word_syncDiscard : decode [0b00010010] = .ok .syncDiscard := by decide

/-- R59, R51: the frame `FA`, byte 0 first. -/
theorem test_word_decode : decode (0x30 :: frameFA) = .ok (.decode frameFA) := by decide

/-- R59: the swapped marker selects `DECODE.ERR` (R91). -/
theorem test_word_decodeErr :
    decode (0x30 :: 0x4D :: 0x42 :: List.replicate 30 0) =
      .ok (.decodeErr (0x4D :: 0x42 :: List.replicate 30 0)) := by decide

/-- R58: `11`, `10`, `01`, `00`. -/
theorem test_word_avg :
    decode (0b00100011 :: ((sample 7 true).toBytes ++ (sample 9 true).toBytes)) =
      .ok (.avgBothErr (sample 7 true) (sample 9 true)) ∧
    decode (0b00100010 :: ((sample 7 true).toBytes ++ (sample 20 false).toBytes)) =
      .ok (.avgSnap (sample 7 true) (sample 20 false)) ∧
    decode (0b00100001 :: ((sample 15 false).toBytes ++ (sample 9 true).toBytes)) =
      .ok (.avgHold (sample 15 false) (sample 9 true)) ∧
    decode (0b00100000 :: ((sample 10 false).toBytes ++ (sample 20 false).toBytes)) =
      .ok (.avgMean (sample 10 false) (sample 20 false)) := by
  refine ⟨?_, ?_, ?_, ?_⟩ <;> decide

/-- R58: a selector that is not the one of the operands. -/
theorem test_word_avg_selector :
    decode (0b00100001 :: ((sample 10 false).toBytes ++ (sample 20 false).toBytes)) =
      .error .wrongSelector := by decide

/-- R56: `000` to `100`, and `101`. -/
theorem test_word_encode :
    decode [0b01000000] = .ok .encodeRequestData ∧ decode [0b01000001] = .ok .encodeMakePassive ∧
    decode [0b01000010] = .ok .encodeMakeActive ∧ decode [0b01000011] = .ok .encodeSleep ∧
    decode [0b01000100] = .ok .encodeWakeUp ∧ decode [0b01000101] = .ok (.encodeUnknown 5) := by
  decide

/-- Every reason for which a word is refused. -/
theorem test_word_rejected :
    decode [] = .error .emptyWord ∧ decode [0xF0] = .error .unknownFormat ∧
    decode [0b00010011, 0x00] = .error .wrongLength ∧
    decode [0b01001000] = .error .reservedBits ∧
    decode [0b00000000, 0x42, 0x00] = .error .noEvent := by decide

/-- The table's own numbering: `match` of `DECODE` is 0x424D << 240 (R59). -/
theorem test_table_decode :
    decodeTableWord 256 (0x424D * 2 ^ 240) = some (.decode frameOfZeros) := by decide

/-- Narrow rows in whole bytes: `RESET`, `RXFAIL`, `PUSH`, `SYNC.EXTRACT`, an unknown kind. -/
theorem test_table_narrow :
    decodeTableWord 8 0b1000 = some .reset ∧ decodeTableWord 8 0b0100 = some .rxfail ∧
    decodeTableWord 8 0b0010 = some (.push 0) ∧ decodeTableWord 8 0b11 = some .syncExtract ∧
    decodeTableWord 8 0b101 = some (.encodeUnknown 5) := by decide

/-- A step runs the operation of a table word as the first one after reset. -/
theorem test_withFetchWord :
    (stateOf (step (State.reset.withFetchWord 256 (0x424D * 2 ^ 240)))).map State.decResult =
      some (some (decodeFrame frameOfZeros)) ∧
    (stateOf (step (State.reset.withFetchWord 4 0b0100))).map (fun t => t.closeReq) = some true ∧
    (stateOf (step (State.reset.withFetchWord 2 0b11))).map (fun t => t.pos) = some 32 ∧
    (stateOf (step (State.reset.withFetchWord 2 0b10))).map (fun t => t.pos) = some 1 := by
  refine ⟨?_, ?_, ?_, ?_⟩ <;> decide

/-! ### One operation each, on the spec's vectors -/

/-- The state of vector X4. -/
def beforeReset : State :=
  { holding (List.replicate 17 0) with
    closeReq := true, pos := 96, out := [readingFA, readingFA, readingFA], retained := readingFA,
    rdSeen := true, avgFail := true }

/-- Vector X4: `RESET`. -/
theorem test_reset :
    (stateOf (exec .reset beforeReset)).map
        (fun t => { t with rd := Reading.zeros false false, draws := 0 }) =
      some State.reset := by decide

/-- Vector X1: `RXFAIL`. -/
theorem test_rxfail :
    stateOf (exec .rxfail (holding (frameFA.take 5))) =
      some { holding (frameFA.take 5) with closeReq := true } := by decide

/-- The example of R71. -/
theorem test_push :
    stateOf (exec (.push 0x42) (holding [0x00])) = some (holding [0x00, 0x42]) := by decide

/-- R37: the capacity's edge; with 32 cells the 33rd byte is not taken. -/
theorem test_push_full :
    refusedWith .notEnabled (exec (.push 0x42) (holding (List.replicate 32 0))) = true := by decide

/-- R72: 31 bytes with the marker at their head. -/
theorem test_syncWait :
    stateOf (exec .syncWait (holding (frameFA.take 31))) = some (holding (frameFA.take 31)) := by
  decide

/-- The example of R73: `FA` and one byte more; the first Reading is taken over whole (P1). -/
theorem test_syncExtract :
    stateOf (exec .syncExtract (holding (frameFA ++ [0x42]))) =
      some { holding [0x42] with
        pos := 32, out := [readingFA], rd := readingFA, rdSeen := true, retained := readingFA } := by
  decide

/-- Vector S7 (its first two bytes): one byte goes, nothing is emitted. -/
theorem test_syncDiscard :
    stateOf (exec .syncDiscard (holding (0x03 :: List.replicate 31 0x0A))) =
      some { holding (List.replicate 31 0x0A) with pos := 1 } := by decide

/-- Vector V1. -/
theorem test_decode :
    (stateOf (exec (.decode frameFA) State.reset)).map State.decResult = some (some readingFA) := by
  decide

/-- Vector V5: the byte at offset 5 raised by one. -/
theorem test_decode_mismatch :
    (stateOf (exec (.decode (frameFA.set 5 0x0B)) State.reset)).map State.decResult =
      some (some { readingFA with stdPm1 := 11, checksumValid := false }) := by decide

/-- Vectors V11, V12: the marker swapped, and 31 bytes. -/
theorem test_decodeErr :
    ((stateOf (exec (.decodeErr (frameFA.take 31)) State.reset)).bind State.decResult).map
      Reading.isError = some true ∧
    ((stateOf (exec (.decodeErr ((frameFA.set 0 0x4D).set 1 0x42)) State.reset)).bind
      State.decResult).map Reading.isError = some true := by
  constructor <;> rfl

/-- Vector A4. -/
theorem test_avgBothErr :
    (stateOf (exec (.avgBothErr (sample 7 true) (sample 9 true)) State.reset)).map
      State.avgResult = some (some (sample 7 true, true)) := by decide

/-- Vector A2. -/
theorem test_avgSnap :
    (stateOf (exec (.avgSnap (sample 7 true) (sample 20 false)) State.reset)).map
      State.avgResult = some (some (sample 20 false, false)) := by decide

/-- Vector A3: the result is in error while the fields are held. -/
theorem test_avgHold :
    (stateOf (exec (.avgHold (sample 15 false) (sample 9 true)) State.reset)).map
      State.avgResult = some (some (sample 15 true, false)) := by decide

/-- Vectors A5, A11: truncation, and no wrap at 16 bits. -/
theorem test_avgMean :
    (stateOf (exec (.avgMean (sample 10 false) (sample 21 false)) State.reset)).map
      State.avgResult = some (some (sample 15 false, false)) ∧
    (stateOf (exec (.avgMean (sample 40000 false) (sample 30000 false)) State.reset)).map
      State.avgResult = some (some (sample 35000 false, false)) := by
  constructor <;> decide

/-- Vectors K1 to K5, byte by byte. -/
theorem test_encode :
    (stateOf (exec .encodeRequestData State.reset)).map State.encResult =
      some (some (.frame [0x42, 0x4D, 0xE2, 0x00, 0x00, 0x01, 0x71] true)) ∧
    (stateOf (exec .encodeMakePassive State.reset)).map State.encResult =
      some (some (.frame [0x42, 0x4D, 0xE1, 0x00, 0x00, 0x01, 0x70] false)) ∧
    (stateOf (exec .encodeMakeActive State.reset)).map State.encResult =
      some (some (.frame [0x42, 0x4D, 0xE1, 0x00, 0x01, 0x01, 0x71] false)) ∧
    (stateOf (exec .encodeSleep State.reset)).map State.encResult =
      some (some (.frame [0x42, 0x4D, 0xE4, 0x00, 0x00, 0x01, 0x73] false)) ∧
    (stateOf (exec .encodeWakeUp State.reset)).map State.encResult =
      some (some (.frame [0x42, 0x4D, 0xE4, 0x00, 0x01, 0x01, 0x74] false)) := by
  refine ⟨?_, ?_, ?_, ?_, ?_⟩ <;> decide

/-- Vector K8. -/
theorem test_encodeUnknown :
    (stateOf (exec (.encodeUnknown 7) State.reset)).map State.encResult =
      some (some .unrecognizedCommand) := by decide

/-- Vector S14: three discards, although two bytes precede the zeros. -/
theorem test_feed_discards :
    let t := State.reset.feed (0x4D :: 0x42 :: List.replicate 30 0 ++ [0x42, 0x4D])
    t.pos = 3 ∧ t.out = [] ∧ t.buf = List.replicate 29 0 ++ [0x42, 0x4D] := by
  refine ⟨?_, ?_, ?_⟩ <;> decide

/-! ### Witnesses: states and operands that meet the hypotheses of the statements

The edge of every range and every clause of a statement with several clauses is shown. -/

/-- A cycle with the given strobes. -/
def strobes (rst rxFail rxValid cmdReq : Bool) : PortIn :=
  { PortIn.idle with rst := rst, rxFail := rxFail, rxValid := rxValid, rxData := 0x9A, cmdReq := cmdReq }

/-- A buffer of 32 bytes without the marker at its head. -/
def noise32 : List Byte := List.replicate 32 0

/-- The reset state of a build without the averaging engine, with these bytes buffered. -/
def withoutEngine (buf : List Byte) : State :=
  { State.resetFor { bufCap := .unbounded, avgEnable := false } with buf := buf }

/-- The operation answers a next state. -/
def runs (i : Instr) (s : State) : Bool := (stateOf (exec i s)).isSome

theorem witness_DecodeEncodeAgree :
    Instr.wellFormed (.decode frameFA) = true ∧ Instr.wellFormed (.decodeErr []) = true ∧
    Instr.wellFormed (.avgHold (sample 0 false) (sample 65535 true)) = true ∧
    Instr.wellFormed (.encodeUnknown 5) = true ∧ Instr.wellFormed .syncWait = true := by decide

theorem witness_DecodedOperationsAreWellFormed :
    decode [0b01000111] = .ok (.encodeUnknown 7) := by decide

theorem witness_SynchronizerSelector :
    decodeSync (syncSelector (frameFA.take 31)) = .syncWait ∧
    decodeSync (syncSelector frameFA) = .syncExtract ∧
    decodeSync (syncSelector noise32) = .syncDiscard := by decide

theorem witness_DecoderSelector :
    decode (dataWord frameFA) = .ok (.decode frameFA) ∧
    decode (dataWord (frameFA.take 31)) = .ok (.decodeErr (frameFA.take 31)) ∧
    (0x424D * 2 ^ 240 < 2 ^ 256 ∧ 0x424D * 2 ^ 240 / 2 ^ 240 = 0x424D) ∧
    decodeTableWord 256 (2 ^ 256 - 1) = some (.decodeErr (bytesBE 32 (2 ^ 256 - 1))) := by
  refine ⟨?_, ?_, ?_, ?_⟩ <;> decide

theorem witness_KindCodes : 5 ≤ (5 : KindCode).toNat ∧ 5 ≤ (7 : KindCode).toNat := by decide

/-- The synchronizer's own step, a byte with room, a reset. -/
theorem witness_StepRunsTheDecodedOperation :
    decode State.reset.fetch = .ok .syncWait ∧
    decode ({ holding [] with sched := [.cycle (strobes false false true true)] }).fetch =
      .ok (.push 0x9A) ∧
    decode ({ holding [] with sched := [.cycle (strobes true true true true)] }).fetch =
      .ok .reset := by decide

/-- One cycle for each clause: reset; failure; a byte with room; a command beside a byte that does
not fit; nothing but a byte that does not fit. -/
theorem witness_PortStrobes :
    (strobes true true true true).rst = true ∧
    ((strobes false true true true).rst = false ∧ (strobes false true true true).rxFail = true) ∧
    ((strobes false false true true).rxFail = false ∧ (holding (frameFA.take 31)).rxReady = true) ∧
    (((strobes false false true true).rxValid && (holding noise32).rxReady) = false ∧
      (strobes false false true true).cmdReq = true) ∧
    (((strobes false false true false).rxValid && (holding noise32).rxReady) = false ∧
      (strobes false false true false).cmdReq = false) := by decide

theorem witness_StepNeverStops :
    State.requestsFit
      { State.reset with
        sched := [.cycle (strobes true true true true), .decode [], .combine (sample 1 true) readingFA] } =
      true ∧
    State.requestsFit { withoutEngine [] with sched := [.cycle PortIn.idle] } = true := by decide

theorem witness_Rxfail :
    runs .syncDiscard (holding noise32) = true ∧ runs .reset State.reset = true ∧
    (holding noise32).closeReq = false ∧ beforeReset.closeReq = true := by decide

theorem witness_Push :
    (holding (List.replicate 31 0)).rxReady = true ∧ (holding noise32).rxReady = false ∧
    (withoutEngine noise32).rxReady = true := by decide

/-- Both builds, and a capacity at its edge. -/
theorem witness_StatusPorts :
    (holding noise32).build.bufCap = .atLeast32 0 ∧ (withoutEngine []).build.bufCap = .unbounded ∧
    (holding []).build.avgEnable = true ∧ (withoutEngine []).build.avgEnable = false ∧
    runs .syncExtract (holding frameFA) = true := by decide

theorem witness_ResetState : Build.default.avgEnable = true := by decide

theorem witness_FullBuffer :
    let s := { holding noise32 with sched := [.cycle (strobes false false true false)] }
    s.bufFits = true ∧ s.rxReady = false ∧ (strobes false false true false).rxValid = true := by decide

theorem witness_Wait :
    (holding []).buf.length < 32 ∧ (holding (frameFA.take 31)).buf.length < 32 ∧
    (holding []).sched = [] := by decide

theorem witness_Extract :
    32 ≤ frameFA.length ∧ frameFA[0]? = some 0x42#8 ∧ frameFA[1]? = some 0x4D#8 := by decide

/-- Half a marker at the head, and a swapped one, are noise (R74, R75). -/
theorem witness_Discard :
    32 ≤ noise32.length ∧ ¬(noise32[0]? = some 0x42#8 ∧ noise32[1]? = some 0x4D#8) ∧
    syncOutcome (noise32.set 0 0x42) = .discard ∧
    syncOutcome ((noise32.set 0 0x4D).set 1 0x42) = .discard := by decide

/-- One state for each clause about the buffer, and operands for the others. -/
theorem witness_Unselected :
    32 ≤ noise32.length ∧
    ¬(32 ≤ noise32.length ∧ noise32[0]? = some 0x42#8 ∧ noise32[1]? = some 0x4D#8) ∧
    ¬(32 ≤ frameFA.length ∧ ¬(frameFA[0]? = some 0x42#8 ∧ frameFA[1]? = some 0x4D#8)) ∧
    decoderSelects (frameFA.take 31) = false ∧ decoderSelects frameFA = true ∧
    ((sample 1 true).isError && (sample 1 false).isError) = false ∧
    ((sample 1 false).isError && !(sample 1 false).isError) = false ∧
    (!(sample 1 true).isError && (sample 1 true).isError) = false ∧
    (!(sample 1 true).isError && !(sample 1 true).isError) = false ∧
    (4 : KindCode).toNat < 5 := by decide

theorem witness_SynchronizerLoop :
    (holding noise32).sched = [] ∧ 32 ≤ (holding noise32).buf.length ∧
    (stateOf (core.run 1 (holding noise32))).map (fun t => t.buf.length) = some 31 := by decide

theorem witness_Scheduling :
    let s := { holding (frameFA.take 31) with sched := [.cycle (strobes false false true false)] }
    s.sched.all Request.keepsRunning = true ∧
    (stateOf (core.run 2 s)).map (fun t => (t.sched, t.buf, t.out)) =
      some ([], [], [readingFA]) := by
  constructor <;> decide

theorem witness_EveryRun : State.requestsFit (holding noise32) = true := by decide

theorem witness_AlignedFrames :
    (holding []).buf = [] ∧
    ∀ f ∈ [frameFA, frameOfZeros],
      f.length = 32 ∧ f[0]? = some 0x42#8 ∧ f[1]? = some 0x4D#8 := by decide

theorem witness_Decode :
    frameOfZeros.length = 32 ∧ frameOfZeros[0]? = some 0x42#8 ∧ frameOfZeros[1]? = some 0x4D#8 := by
  decide

/-- Vectors V4 and V3: the smallest and the largest sum. -/
theorem witness_Checksum :
    sum8 frameOfZeros 0 30 = 143 ∧ sum8 (0x42 :: 0x4D :: List.replicate 30 0xFF) 0 30 = 7283 := by
  decide

/-- A checksum field just below the least sum, and one just above the greatest. -/
theorem witness_ChecksumField :
    (be16 (frameOfZeros.set 31 0x8E) 30).toNat < 0x8F ∧
    0x1C73 < (be16 ((frameOfZeros.set 30 0x1C).set 31 0x74) 30).toNat := by decide

theorem witness_ChecksumMismatch :
    (decodeFrame ((holding (frameFA.set 31 0x9B)).buf.take 32)).checksumValid = false ∧
    frameFA.take 30 = (frameFA.set 31 0x9B).take 30 := by decide

/-- At offsets 0, 2, 29, 30 and 31 of a valid frame. -/
theorem witness_SingleByteCorruption :
    (decodeFrame frameFA).checksumValid = true ∧
    ∀ i ∈ [0, 1, 2, 29, 30, 31], i < 32 ∧ (0xFF : Byte) ≠ frameFA.getD i 0 := by decide

theorem witness_Reordering :
    (0 : Nat) ≠ 29 ∧ (frameFA.getD 5 0).toNat + 1 < 256 ∧ 1 ≤ (frameFA.getD 7 0).toNat := by decide

theorem witness_DecodeErr :
    ¬(([] : List Byte).length = 32 ∧ ([] : List Byte)[0]? = some 0x42#8 ∧
      ([] : List Byte)[1]? = some 0x4D#8) ∧
    ¬((frameFA ++ [0]).length = 32 ∧ (frameFA ++ [0])[0]? = some 0x42#8 ∧
      (frameFA ++ [0])[1]? = some 0x4D#8) := by decide

theorem witness_Average :
    State.reset.build.avgEnable = true ∧ (sample 65535 true).isError = true ∧
    (sample 65535 false).isError = false := by decide

theorem witness_FirstExtraction :
    (holding frameFA).Inv ∧ (holding frameFA).build.avgEnable = true ∧
    State.Inv
      { holding frameOfZeros with
        pos := 32, out := [readingFA], rd := readingFA, rdSeen := true, retained := readingFA } := by
  refine ⟨?_, ?_, ?_⟩ <;> decide

/-- The two error flags of the retained and of the incoming Reading, each way. -/
theorem witness_UpdateOfTheRegisters :
    (holding frameFA).build.avgEnable = true ∧ (holding frameFA).retained.isError = true ∧
    ({ holding frameFA with retained := readingFA }).retained.isError = false ∧
    (sample 7 true).isError = true ∧ (sample 7 false).isError = false ∧
    runs .syncExtract (holding frameFA) = true := by decide

theorem witness_EveryUpdate :
    State.reset.build.avgEnable = true ∧ runs .syncExtract (holding frameFA) = true := by decide

theorem witness_BuildWithoutAveraging :
    (withoutEngine frameFA).build.avgEnable = false ∧
    runs .syncExtract (withoutEngine frameFA) = true := by decide

theorem witness_RestOfTheBlock :
    runs .syncExtract (holding frameFA) = true ∧
    runs .syncExtract
      { holding frameFA with
        build := { State.reset.build with avgEnable := false }, retained := readingFA,
        avgFail := true } = true := by decide

theorem witness_UnknownKind : 5 ≤ (6 : KindCode).toNat := by decide

theorem witness_EncodeIsPure :
    runs (decodeKind 0) beforeReset = true ∧ runs (decodeKind 7) State.reset = true := by decide

theorem witness_EncodeCommutes :
    runs .syncExtract (holding frameFA) = true ∧ runs (decodeKind 6) (holding frameFA) = true ∧
    runs .reset (holding frameFA) = true := by decide

/-- One operation of each kind runs, for the statements about every operation. -/
theorem witness_EveryOperation :
    runs .reset beforeReset = true ∧ runs .rxfail State.reset = true ∧
    runs (.push 0) State.reset = true ∧ runs .syncWait State.reset = true ∧
    runs .syncExtract (holding frameFA) = true ∧ runs .syncDiscard (holding noise32) = true ∧
    runs (.decode frameFA) State.reset = true ∧ runs (.decodeErr []) State.reset = true ∧
    runs (.avgBothErr (sample 1 true) (sample 2 true)) State.reset = true ∧
    runs (.encodeUnknown 5) State.reset = true := by decide

theorem witness_RxfailCommutes :
    runs (.push 0) State.reset = true ∧ runs .rxfail State.reset = true := by decide

/-- A build with 33 cells: the push and the extraction are both enabled. -/
theorem witness_PushCommutes :
    let s := { State.resetFor { bufCap := .atLeast32 1, avgEnable := true } with buf := frameFA }
    s.rxReady = true ∧ 32 ≤ s.buf.length := by decide

theorem witness_StepKeepsTheInvariant :
    State.Inv (holding frameFA) ∧ (stateOf (step (holding frameFA))).isSome = true := by
  constructor <;> decide

/-- A reset at the head, and a byte that does not fit behind a frame. -/
theorem witness_StepKeepsTheStreamAccount :
    (stateOf (step { holding frameFA with sched := [.cycle (strobes true false true false)] })).isSome =
      true ∧
    (stateOf (step { holding frameFA with sched := [.cycle (strobes false false true false)] })).isSome =
      true := by
  constructor <;> decide

theorem witness_StepLowersTheWorkThatIsLeft :
    (stateOf (step (holding noise32))).isSome = true ∧ 32 ≤ (holding noise32).buf.length ∧
    (stateOf (step (holding []))).isSome = true ∧ (holding []).sched = [] ∧
    (holding []).quiescent := by decide

theorem witness_StaleBytes :
    let s := holding (frameFA.take 6)
    s.quiescent ∧ s.buf[0]? = some 0x42#8 ∧ s.buf[1]? = some 0x4D#8 ∧
    32 - s.buf.length ≤ frameFA.length := by decide

end Sys2Proof.Tests
end

section
/-! PROOFS of the statements on the state (10_state.md). -/

namespace Sys2Proof.Machine

/-! ### Emission (R16) -/

/-- `rd_valid` pulses where the trace grows (R22). -/
theorem outputs_rdValid_iff (s t : State) :
    (outputs s t).rdValid = true ↔ s.out.length < t.out.length := decide_eq_true_iff

theorem Ran.eq_extract {s t : State} (h : Ran s .syncExtract t) : t = s.extract := by
  cases h; rfl

theorem Ran.eq_resetBlock {s t : State} (h : Ran s .reset t) : t = s.resetBlock := by
  cases h; rfl

/-- The frame of R16: the trace and the output register are written by `Emit` and `RESET` alone. -/
theorem Ran.emission_unchanged {i : Instr} {s t : State} (h : Ran s i t)
    (notExtract : i ≠ .syncExtract) (notReset : i ≠ .reset) :
    t.out = s.out ∧ t.rd = s.rd ∧ t.rdSeen = s.rdSeen := by
  cases h with
  | reset => exact absurd rfl notReset
  | syncExtract => exact absurd rfl notExtract
  | _ => exact ⟨rfl, rfl, rfl⟩

/-- The pulse tells the extractions from all other operations: only they make the trace longer. -/
theorem Ran.rdValid_iff {i : Instr} {s t : State} (h : Ran s i t) :
    (outputs s t).rdValid = true ↔ i = .syncExtract := by
  rw [outputs_rdValid_iff]
  by_cases isExtract : i = .syncExtract
  · subst isExtract
    simp [h.eq_extract]
  by_cases isReset : i = .reset
  · subst isReset
    simp [h.eq_resetBlock]
  · obtain ⟨out, -, -⟩ := h.emission_unchanged isExtract isReset
    simp [out, isExtract]

/-- Settles O50, from what each operation does to the trace: `SYNC.EXTRACT` makes it longer, `RESET`
empties it, and the rest keep it. -/
theorem onlyExtractionEmits : Obligations.OnlyExtractionEmits := by
  intro i s t h
  have ran := ran_of_exec h
  refine ⟨ran.rdValid_iff, ?extract, ran.emission_unchanged, ?reset⟩
  case extract =>
    rintro rfl
    simp [ran.eq_extract]
  case reset =>
    rintro rfl
    simp [ran.eq_resetBlock]

end Sys2Proof.Machine
end

section
/-! PROOFS of the statement on the accesses to the buffer (20_memory.md). -/

namespace Sys2Proof.Machine

/-! ### The accesses to the buffer (R34) -/

/-- `PUSH` appends its byte at the tail. -/
theorem Ran.push_appends {b : Byte} {s t : State} (h : Ran s (.push b) t) :
    t.buf = s.buf ++ [b] ∧ t.pos = s.pos := by
  cases h; exact ⟨rfl, rfl⟩

/-- `SYNC.EXTRACT` removes one frame at the head, and only where a whole frame is buffered. -/
theorem Ran.extract_removes {s t : State} (h : Ran s .syncExtract t) :
    t.buf = s.buf.drop 32 ∧ t.pos = s.pos + 32 ∧ 32 ≤ s.buf.length := by
  cases h with
  | syncExtract selected =>
    obtain ⟨enough, -⟩ := (syncOutcome_extract_iff s.buf).mp selected
    exact ⟨State.extract_buf s, State.extract_pos s, enough⟩

/-- `SYNC.DISCARD` removes one byte at the head, and only where a whole frame is buffered. -/
theorem Ran.discard_removes {s t : State} (h : Ran s .syncDiscard t) :
    t.buf = s.buf.drop 1 ∧ t.pos = s.pos + 1 ∧ 32 ≤ s.buf.length := by
  cases h with
  | syncDiscard selected =>
    obtain ⟨enough, -⟩ := (syncOutcome_discard_iff s.buf).mp selected
    exact ⟨State.discard_buf s, State.discard_pos s, enough⟩

/-- The frame of R34: apart from `RESET`, the buffer is written by the three accesses alone. -/
theorem Ran.buffer_unchanged {i : Instr} {s t : State} (h : Ran s i t)
    (notPush : ∀ b, i ≠ .push b) (notExtract : i ≠ .syncExtract) (notDiscard : i ≠ .syncDiscard)
    (notReset : i ≠ .reset) : t.buf = s.buf ∧ t.pos = s.pos := by
  cases h with
  | reset => exact absurd rfl notReset
  | push b => exact absurd rfl (notPush b)
  | syncExtract => exact absurd rfl notExtract
  | syncDiscard => exact absurd rfl notDiscard
  | _ => exact ⟨rfl, rfl⟩

/-- Settles O51, by the three accesses to the buffer and the frame of all other operations. -/
theorem bufferIsFirstInFirstOut : Obligations.BufferIsFirstInFirstOut := by
  intro i s t notReset h
  have ran := ran_of_exec h
  cases i with
  | push b => exact .inl ⟨b, rfl, ran.push_appends⟩
  | syncExtract => exact .inr (.inl ⟨rfl, ran.extract_removes⟩)
  | syncDiscard => exact .inr (.inr (.inl ⟨rfl, ran.discard_removes⟩))
  | _ =>
    exact .inr (.inr (.inr
      ⟨nofun, nofun, nofun, ran.buffer_unchanged nofun nofun nofun notReset⟩))

end Sys2Proof.Machine
end

section
/-! PROOFS of the statements on the selectors (30_encoding.md). -/

namespace Sys2Proof.Machine

/-! ### The synchronizer selector (R57) -/

/-- The row of the opcode table that performs an outcome of a SYNC step (R70). -/
def SyncOutcome.row : SyncOutcome → Instr
  | .wait => .syncWait
  | .extract => .syncExtract
  | .discard => .syncDiscard

theorem SyncOutcome.row_injective : Function.Injective SyncOutcome.row := by
  intro a b h
  cases a <;> cases b <;> trivial

/-- The two bits g and m select the row of the outcome that the length test and the marker test give. -/
theorem decodeSync_syncSelector (buf : List Byte) :
    decodeSync (syncSelector buf) = (syncOutcome buf).row := by
  have selected (g m : Bool) : decodeSync (BitVec.ofBool g ++ BitVec.ofBool m) =
      if g then if m then .syncExtract else .syncDiscard else .syncWait := by
    revert g m
    decide
  rw [syncSelector, selected, syncOutcome]
  by_cases short : buf.length < Config.frameSize
  · simp [short, SyncOutcome.row]
  · cases hasMarker buf <;> simp [short, not_lt.mp short, SyncOutcome.row]

theorem decodeSync_syncSelector_eq_row_iff (buf : List Byte) (o : SyncOutcome) :
    decodeSync (syncSelector buf) = o.row ↔ syncOutcome buf = o := by
  rw [decodeSync_syncSelector, SyncOutcome.row_injective.eq_iff]

/-- Settles O4: the selector picks the row of the buffer's outcome. -/
theorem synchronizerSelectorPicksTheOutcome : Obligations.SynchronizerSelectorPicksTheOutcome := by
  intro buf
  refine ⟨?wait, ?extract, ?discard⟩
  case wait =>
    exact (decodeSync_syncSelector_eq_row_iff buf .wait).trans (syncOutcome_wait_iff buf)
  case extract =>
    rw [← hasMarker_iff, ← syncOutcome_extract_iff]
    exact decodeSync_syncSelector_eq_row_iff buf .extract
  case discard =>
    rw [← hasMarker_iff, Bool.not_eq_true, ← syncOutcome_discard_iff]
    exact decodeSync_syncSelector_eq_row_iff buf .discard

/-! ### The decoder selector (R59) -/

theorem decodeData_eq_decode_iff (s : List Byte) :
    decodeData s = .decode s ↔ decoderSelects s = true := by
  unfold decodeData
  split_ifs with h <;> simp [h]

theorem decodeData_eq_decodeErr_iff (s : List Byte) :
    decodeData s = .decodeErr s ↔ ¬decoderSelects s = true := by
  unfold decodeData
  split_ifs with h <;> simp [h]

@[simp] theorem bytesBE_length (n w : Nat) : (bytesBE n w).length = n := by
  simp [bytesBE]

theorem bytesBE_getElem? (n w k : Nat) (h : k < n) :
    (bytesBE n w)[k]? = some (BitVec.ofNat 8 (w / 256 ^ (n - 1 - k))) := by
  simp [bytesBE, h]

/-- The top 16 bits of the 256-bit view are its first two bytes (R51). -/
theorem decoderSelects_bytesBE_iff (w : Nat) (bound : w < 2 ^ 256) :
    decoderSelects (bytesBE 32 w) = true ↔ w / 2 ^ 240 = 0x424D := by
  have top : w / 256 ^ 31 = w / 2 ^ 240 / 256 := (Nat.div_div_eq_div_mul w _ _).symm
  have small : w / 2 ^ 240 < 65536 := Nat.div_lt_of_lt_mul bound
  rw [decoderSelects_iff, hasMarker_iff, bytesBE_getElem? 32 w 0 (by decide),
    bytesBE_getElem? 32 w 1 (by decide), show 32 - 1 - 0 = 31 from rfl, top,
    show 256 ^ (32 - 1 - 1) = 2 ^ 240 from rfl]
  generalize w / 2 ^ 240 = q at small
  simp only [bytesBE_length, true_and, Option.some.injEq, ← BitVec.toNat_inj, BitVec.toNat_ofNat]
  omega

/-- A 256-bit word of the table is the decoder's input. -/
theorem decodeTableWord_frame (w : Nat) :
    decodeTableWord 256 w = some (decodeData (bytesBE 32 w)) := by
  simp [decodeTableWord, decode_dataWord, Except.toOption]

/-- Settles O5: both views of the input are decided by the one test of the decoder selector. -/
theorem decoderSelectorSplitsAllInputs : Obligations.DecoderSelectorSplitsAllInputs := by
  refine ⟨fun input => ?bytes, fun w bound => ?frame⟩
  case bytes =>
    rw [decode_dataWord, Except.ok.injEq, Except.ok.injEq, ← hasMarker_iff, ← decoderSelects_iff]
    exact ⟨decodeData_eq_decode_iff input, decodeData_eq_decodeErr_iff input⟩
  case frame =>
    rw [decodeTableWord_frame, Option.some.injEq, Option.some.injEq, ne_eq,
      ← decoderSelects_bytesBE_iff w bound]
    exact ⟨decodeData_eq_decode_iff _, decodeData_eq_decodeErr_iff _⟩

/-! ### The kind codes (R56) -/

/-- A `CMD7` word decodes by its kind code. -/
theorem decode_kindWord (k : KindCode) : decode (kindWord k) = .ok (decodeKind k) := by
  revert k
  decide

/-- The codes without a table entry name no Command. -/
theorem decodeKind_of_five_le (k : KindCode) (h : 5 ≤ k.toNat) : decodeKind k = .encodeUnknown k := by
  unfold decodeKind
  split
  case h_6 => rfl
  all_goals omega

/-- Settles O6: the codes 0 to 4 are read off the table, and the rest name no Command. -/
theorem kindCodesSelectTheEncodeRows : Obligations.KindCodesSelectTheEncodeRows := by
  refine ⟨decode_kindWord 0, decode_kindWord 1, decode_kindWord 2, decode_kindWord 3,
    decode_kindWord 4, fun k h => ?_⟩
  rw [decode_kindWord, decodeKind_of_five_le k h]

end Sys2Proof.Machine
end

section
/-! PROOFS of the statements on `PUSH` and the three synchronizer operations (40_sync.md). -/

namespace Sys2Proof.Machine

/-! ### `PUSH` (R71) -/

/-- There is no `PUSH` step while the buffer is full (R37). -/
theorem exec_push_of_full {s : State} (b : Byte) (full : s.rxReady = false) :
    exec (.push b) s = .refused .notEnabled := by
  simp [exec, execPush, full]

/-- Settles O14, by the condition of `PUSH`: the step is `BufPush` where it holds, and none where it
fails. -/
theorem pushAppendsOneByteWhileThereIsRoom : Obligations.PushAppendsOneByteWhileThereIsRoom := by
  intro s b
  exact ⟨fun room => (Ran.push b room).exec_eq, exec_push_of_full b⟩

/-! ### `SYNC.WAIT` (R72) -/

/-- With nothing pending no request leaves the queue. -/
theorem State.advance_of_sched_nil {s : State} (idle : s.sched = []) : s.advance = s := by
  obtain ⟨block, build, sched⟩ := s
  subst idle
  rfl

/-- With nothing pending a step is the synchronizer's: it runs the row of the buffer's outcome. -/
theorem step_of_sched_nil {s : State} (idle : s.sched = []) :
    step s = exec (syncOutcome s.buf).row s := by
  have word : s.fetch = syncWord (syncSelector s.buf) := by simp [State.fetch, idle]
  simp [step, word, decode_syncWord, decodeSync_syncSelector, State.advance_of_sched_nil idle]

/-- Settles O17: a buffer below 32 bytes selects `SYNC.WAIT`, which the step with nothing pending
runs. -/
theorem waitChangesNothing : Obligations.WaitChangesNothing := by
  intro s short
  have selected : syncOutcome s.buf = .wait := (syncOutcome_wait_iff s.buf).mpr short
  have waits : exec .syncWait s = .next s := (Ran.syncWait selected).exec_eq
  exact ⟨waits, fun idle => by rw [step_of_sched_nil idle, selected]; exact waits⟩

/-! ### `SYNC.EXTRACT` (R73) -/

/-- The Reading of a decoded frame is no error (R92). -/
@[simp] theorem decodeFrame_isError (f : List Byte) : (decodeFrame f).isError = false := rfl

/-- Settles O18: the marker in 32 or more bytes selects the extraction, whose update of the state
is the one stated: its candidate frame is the first 32 bytes. -/
theorem extractRemovesAndEmitsOneFrame : Obligations.ExtractRemovesAndEmitsOneFrame := by
  intro s enough first second
  have selected : syncOutcome s.buf = .extract :=
    (syncOutcome_extract_iff s.buf).mpr ⟨enough, (hasMarker_iff s.buf).mpr ⟨first, second⟩⟩
  exact ⟨decodeFrame_isError _, (Ran.syncExtract selected).exec_eq⟩

/-! ### `SYNC.DISCARD` (R74) -/

/-- Settles O19: 32 or more bytes without the marker select the discard, which removes one byte. -/
theorem discardRemovesOneByte : Obligations.DiscardRemovesOneByte := by
  intro s enough noMarker
  have selected : syncOutcome s.buf = .discard := by
    rw [syncOutcome_discard_iff, ← Bool.not_eq_true, hasMarker_iff]
    exact ⟨enough, noMarker⟩
  exact (Ran.syncDiscard selected).exec_eq

end Sys2Proof.Machine
end

section
/-! PROOFS of the statements on the frame decoder (41_decode.md). -/

namespace Sys2Proof.Machine

/-! ### The checksum accumulator (R96, R97) -/

/-- The sum of a list of bytes is at most 255 for each of them. -/
theorem sum_bytes_le (l : List Byte) : (l.map BitVec.toNat).sum ≤ l.length * 255 := by
  have each : ∀ n ∈ l.map BitVec.toNat, n ≤ 255 :=
    List.forall_mem_map.mpr fun b _ => Nat.le_of_lt_succ b.isLt
  simpa using List.sum_le_card_nsmul _ 255 each

/-- The marker gives 143 of the sum; the other 28 summed bytes give the rest (R96). -/
theorem sum_of_marker {f : List Byte} (first : f[0]? = some 0x42#8) (second : f[1]? = some 0x4D#8) :
    ((f.take 30).map BitVec.toNat).sum = 143 + (((f.drop 2).take 28).map BitVec.toNat).sum := by
  match f, first, second with
  | _ :: _ :: rest, rfl, rfl => simp; omega

/-- 16 bits hold the sum of the first 30 bytes exactly: it is at most 7650 (R96). -/
theorem checksum16_toNat (f : List Byte) :
    (checksum16 f 30).toNat = ((f.take 30).map BitVec.toNat).sum := by
  have bound := sum_bytes_le (f.take 30)
  have count := List.length_take_le 30 f
  exact Nat.mod_eq_of_lt (show ((f.take 30).map BitVec.toNat).sum < 2 ^ 16 by omega)

/-- The checksum flag compares the exact sum with the big-endian value at offsets 30 and 31
(R97). -/
theorem frameChecksumValid_iff (f : List Byte) :
    frameChecksumValid f = true ↔
      ((f.take 30).map BitVec.toNat).sum = (f.getD 30 0).toNat * 256 + (f.getD 31 0).toNat := by
  rw [← checksum16_toNat, ← be16_toNat f 30, BitVec.toNat_inj]
  exact beq_iff_eq

/-- Settles O29: at most 255 for each of the 30 bytes, and for each of the 28 beside the marker. -/
theorem checksumAccumulatorNeverOverflows : Obligations.ChecksumAccumulatorNeverOverflows := by
  intro f len
  have upper := sum_bytes_le (f.take 30)
  have rest := sum_bytes_le ((f.drop 2).take 28)
  simp only [List.length_take, List.length_drop, len] at upper rest
  refine ⟨upper, checksum16_toNat f, fun first second => ?_⟩
  rw [sum_of_marker first second]
  omega

/-! ### The fields (R92 to R95) -/

/-- The decoder's inputs, by their length and their first two bytes (R59). -/
theorem decoderSelects_of_marker {f : List Byte} (len : f.length = 32)
    (first : f[0]? = some 0x42#8) (second : f[1]? = some 0x4D#8) : decoderSelects f = true :=
  (decoderSelects_iff f).mpr ⟨len, (hasMarker_iff f).mpr ⟨first, second⟩⟩

/-- Settles O28: each field is a big-endian pair or a byte of the frame, and the flag compares the
exact sum. -/
theorem decodeFillsEveryField : Obligations.DecodeFillsEveryField := by
  intro s f len first second b
  have ran := Ran.decode (s := s) f (decoderSelects_of_marker len first second)
  exact ⟨decodeFrame f, ran.exec_eq, rfl, be16_toNat f 2,
    be16_toNat f 4, be16_toNat f 6, be16_toNat f 8,
    be16_toNat f 10, be16_toNat f 12, be16_toNat f 14,
    be16_toNat f 16, be16_toNat f 18, be16_toNat f 20,
    be16_toNat f 22, be16_toNat f 24, be16_toNat f 26,
    rfl, rfl, frameChecksumValid_iff f, decodeFrame_isError f⟩

/-! ### A mismatch is not fatal (R98) -/

theorem byteField_take {f : List Byte} {n k : Nat} (inside : k < n) :
    byteField (f.take n) k = byteField f k := by
  simp [byteField, List.getD, inside]

theorem be16_take {f : List Byte} {n k : Nat} (inside : k + 1 < n) :
    be16 (f.take n) k = be16 f k := by
  simp [be16, List.getD, inside, Nat.lt_of_succ_lt inside]

/-- Every field but the checksum flag is read from the bytes at offsets 0 to 29. -/
theorem decodeFrame_take (f : List Byte) (valid : Bool) :
    { decodeFrame (f.take 30) with checksumValid := valid } =
      { decodeFrame f with checksumValid := valid } := by
  simp [decodeFrame, be16_take, byteField_take]

/-- Settles O31: the two frames share their first 30 bytes, and the extraction does not look at the
checksum flag. -/
theorem checksumMismatchIsNotFatal : Obligations.ChecksumMismatchIsNotFatal := by
  refine ⟨fun f g _ _ same => ?fields, fun s enough first second _ => ?emitted⟩
  case fields =>
    rw [← decodeFrame_take f, same, decodeFrame_take g]
  case emitted =>
    obtain ⟨noError, runs⟩ := extractRemovesAndEmitsOneFrame s enough first second
    exact ⟨_, runs, rfl, noError, fun on => if_pos on⟩

end Sys2Proof.Machine
end

section
/-! PROOFS of the statement on the update of `retained` and `avgFail` (42_averaging.md). -/

namespace Sys2Proof.Machine

/-! ### The measurement fields of `combine` (R112 to R115) -/

@[simp] theorem combineWith_measurement (f : U16 → U16 → U16) (r i : Reading) (x : Measurement) :
    (combineWith f r i).measurement x = f (r.measurement x) (i.measurement x) := by
  cases x <;> rfl

/-- `BOTHERR` and `HOLD`: an incoming Reading in error leaves the retained fields (R112, R114). -/
theorem combine_measurement_of_incoming_error (r : Reading) {i : Reading} (bad : i.isError = true)
    (x : Measurement) : (combine r i).measurement x = r.measurement x := by
  cases h : r.isError with
  | true => simp [combine, h, bad, combineBothErr]
  | false => simp [combine, h, bad, combineHold]

/-- `SNAP`: a good incoming Reading replaces the fields of a retained one in error (R113). -/
theorem combine_measurement_of_retained_error {r i : Reading} (bad : r.isError = true)
    (good : i.isError = false) (x : Measurement) :
    (combine r i).measurement x = i.measurement x := by
  simp [combine, bad, good, combineSnap]

/-- `MEAN`: two good Readings give the exact means, truncated (R115). -/
theorem combine_measurement_toNat_of_good {r i : Reading} (good : r.isError = false)
    (good' : i.isError = false) (x : Measurement) :
    ((combine r i).measurement x).toNat =
      ((r.measurement x).toNat + (i.measurement x).toNat) / 2 := by
  simp [combine, good, good', combineMean, mean16_toNat]

/-! ### The registers (R111, R119) -/

/-- With the engine present `AvgUpdate` writes `combine` to `retained` and its report to `avgFail`. -/
theorem State.average_of_avgEnable {s : State} (on : s.build.avgEnable = true) (i : Reading) :
    s.average i =
      { s with retained := combine s.retained i, avgFail := updateFailed s.retained i } := by
  simp [State.average, on]

/-- Inside `SYNC.EXTRACT` the averaging update is that of the emitted Reading (R111). -/
theorem Ran.extract_averages {s t : State} (h : Ran s .syncExtract t) :
    t.retained = (s.average t.rd).retained ∧ t.avgFail = (s.average t.rd).avgFail := by
  rw [h.eq_extract]
  exact ⟨rfl, rfl⟩

/-- Settles O39: the two error flags select the case of `combine` that the update writes to the
registers. -/
theorem updateOfTheRegistersFollowsTheFourCases :
    Obligations.UpdateOfTheRegistersFollowsTheFourCases := by
  refine ⟨fun s i on => ?update, fun s t h => (ran_of_exec h).extract_averages⟩
  rw [State.average_of_avgEnable on]
  refine ⟨rfl, fun bad bad' => ⟨?bothErr, ?_⟩, fun bad good => ⟨?snap, ?_⟩,
    fun good bad => ⟨?hold, ?_⟩, fun good good' => ⟨?mean, ?_⟩, combine_others s.retained i⟩
  case bothErr => exact combine_measurement_of_incoming_error s.retained bad'
  case snap => exact combine_measurement_of_retained_error bad good
  case hold => exact combine_measurement_of_incoming_error s.retained bad
  case mean => exact combine_measurement_toNat_of_good good good'
  all_goals simp [updateFailed, *]

end Sys2Proof.Machine
end

section
/-! PROOFS of the statements on the command encoder (43_encode.md). -/

namespace Sys2Proof.Machine

/-! ### Frame assembly (R126, R127) -/

theorem hi8_toNat (v : U16) : (hi8 v).toNat = v.toNat / 256 := by
  have := v.isLt
  simp only [hi8, BitVec.extractLsb'_toNat, Nat.shiftRight_eq_div_pow]
  omega

theorem lo8_toNat (v : U16) : (lo8 v).toNat = v.toNat % 256 := by
  simp [lo8]

/-- 16 bits hold the sum of up to 257 bytes exactly (R96, R127). -/
theorem checksum16_toNat_of_le (f : List Byte) {span : Nat} (small : span ≤ 257) :
    (checksum16 f span).toNat = ((f.take span).map BitVec.toNat).sum := by
  have bound := sum_bytes_le (f.take span)
  have count := List.length_take_le span f
  exact Nat.mod_eq_of_lt (show ((f.take span).map BitVec.toNat).sum < 2 ^ 16 by omega)

/-- The two bytes of a 16-bit value, high byte first, give the value (R53). -/
theorem hi8_mul_add_lo8_toNat (v : U16) : (hi8 v).toNat * 256 + (lo8 v).toNat = v.toNat := by
  rw [hi8_toNat, lo8_toNat]
  exact Nat.div_add_mod' _ _

/-- The checksum of a command frame's five leading bytes is their exact sum (R127). -/
theorem checksum16_five_toNat (a b c d e : Byte) :
    (checksum16 [a, b, c, d, e] 5).toNat =
      a.toNat + b.toNat + c.toNat + d.toNat + e.toNat := by
  rw [checksum16_toNat_of_le _ (by decide)]
  simp only [List.take, List.map, List.sum_cons, List.sum_nil]
  omega

/-- Settles O46: the operand and the checksum are split into their quotient and remainder by 256,
and the checksum of five bytes is their exact sum. -/
theorem commandFrameCarriesItsByteSum : Obligations.CommandFrameCarriesItsByteSum := by
  intro opcode operand
  refine ⟨rfl, rfl, hi8_toNat operand, lo8_toNat operand, ?sum⟩
  case sum =>
    rw [← hi8_toNat, ← lo8_toNat]
    exact (hi8_mul_add_lo8_toNat _).trans
      (checksum16_five_toNat 0x42 0x4D opcode (hi8 operand) (lo8 operand))

/-! ### The recognised and the unknown kinds (R128 to R133) -/

/-- A kind code is that of a recognised kind, or it has no table entry (R56). -/
theorem kindCode_cases (k : KindCode) : (∃ kind : Kind, k = kind.code) ∨ 5 ≤ k.toNat := by
  have codes : k.toNat = 0 ∨ k.toNat = 1 ∨ k.toNat = 2 ∨ k.toNat = 3 ∨ k.toNat = 4 ∨
      5 ≤ k.toNat := by omega
  obtain h | h | h | h | h | h := codes
  · exact .inl ⟨.requestData, BitVec.eq_of_toNat_eq h⟩
  · exact .inl ⟨.makePassive, BitVec.eq_of_toNat_eq h⟩
  · exact .inl ⟨.makeActive, BitVec.eq_of_toNat_eq h⟩
  · exact .inl ⟨.sleep, BitVec.eq_of_toNat_eq h⟩
  · exact .inl ⟨.wakeUp, BitVec.eq_of_toNat_eq h⟩
  · exact .inr h

/-- The code of a recognised kind selects the row that answers that kind's frame. -/
theorem exec_decodeKind_code (k : Kind) (s : State) :
    exec (decodeKind k.code) s = .next (s.answerEncoder (encodeKind k)) := by
  cases k <;> rfl

/-- A code without a table entry is answered by the error alone (R133). -/
theorem exec_decodeKind_of_five_le {k : KindCode} (unknown : 5 ≤ k.toNat) (s : State) :
    exec (decodeKind k) s =
      .next { s with encResult := some .unrecognizedCommand, draws := s.draws + 1 } := by
  rw [decodeKind_of_five_le k unknown]
  exact (Ran.encodeUnknown k unknown).exec_eq

/-- The answer to a recognised kind and the command outputs that show it, from its frame. -/
theorem exec_decodeKind_code_of_frame (k : Kind) {bytes : List Byte} {reply : Bool}
    {word : BitVec 56} (frame : encodeKind k = .frame bytes reply) (bits : cmdBits bytes = word)
    (s : State) :
    exec (decodeKind k.code) s = .next (s.answerEncoder (.frame bytes reply)) ∧
      (outputs s (s.answerEncoder (.frame bytes reply))).cmd =
        some { bytes := word, unknown := false, expectsReply := reply } := by
  subst bits
  exact ⟨frame ▸ exec_decodeKind_code k s, rfl⟩

/-- Settles O44: each kind's frame is assembled from its entry of the Command table. -/
theorem recognizedKindsEncodeTheirFrames : Obligations.RecognizedKindsEncodeTheirFrames := by
  intro s
  exact ⟨exec_decodeKind_code_of_frame .requestData (by decide) (by decide) s,
    exec_decodeKind_code_of_frame .makePassive (by decide) (by decide) s,
    exec_decodeKind_code_of_frame .makeActive (by decide) (by decide) s,
    exec_decodeKind_code_of_frame .sleep (by decide) (by decide) s,
    exec_decodeKind_code_of_frame .wakeUp (by decide) (by decide) s⟩

/-- Settles O45: the row runs on every code without a table entry, and its answer is the error. -/
theorem unknownKindProducesNoBytes : Obligations.UnknownKindProducesNoBytes := by
  intro s k unknown
  exact ⟨_, (Ran.encodeUnknown k unknown).exec_eq, rfl, rfl, rfl, rfl, rfl, rfl, rfl⟩

/-! ### Purity (R135) -/

/-- The answer to a kind code is the same in every state. -/
theorem exec_decodeKind_uniform (k : KindCode) :
    ∃ result, ∀ s, ∃ draws,
      exec (decodeKind k) s = .next { s with encResult := some result, draws := draws } := by
  obtain ⟨kind, rfl⟩ | unknown := kindCode_cases k
  · exact ⟨encodeKind kind, fun s => ⟨s.draws, exec_decodeKind_code kind s⟩⟩
  · exact ⟨.unrecognizedCommand, fun s => ⟨s.draws + 1, exec_decodeKind_of_five_le unknown s⟩⟩

/-- Settles O47: only the result and the draw counter are written, and the result is the kind's. -/
theorem encodeIsPure : Obligations.EncodeIsPure := by
  intro k s
  obtain ⟨result, answers⟩ := exec_decodeKind_uniform k
  obtain ⟨draws, runs⟩ := answers s
  refine ⟨_, runs, rfl, rfl, fun s' t' runs' => ?_⟩
  obtain ⟨draws', same⟩ := answers s'
  cases runs'.symm.trans same
  rfl

end Sys2Proof.Machine
end

section
/-! PROOFS of the statement on the standing request to close (60_exceptions.md). -/

namespace Sys2Proof.Machine

/-! ### The request is sticky (R17) -/

/-- A request to close that stands already is not changed by another one. -/
theorem State.requestClose_of_closeReq {s : State} (standing : s.closeReq = true) :
    s.requestClose = s := by
  rw [State.requestClose, ← standing]

/-- The frame of R17: `closeReq` is written by `RXFAIL` and `RESET` alone. -/
theorem Ran.closeReq_unchanged {i : Instr} {s t : State} (h : Ran s i t)
    (notRxfail : i ≠ .rxfail) (notReset : i ≠ .reset) : t.closeReq = s.closeReq := by
  cases h with
  | reset => exact absurd rfl notReset
  | rxfail => exact absurd rfl notRxfail
  | _ => rfl

theorem Ran.closeReq_of_rxfail {s t : State} (h : Ran s .rxfail t) : t.closeReq = true := by
  cases h; rfl

/-- Outside `RESET` the request stands afterwards where it stood before or `RXFAIL` made it. -/
theorem Ran.closeReq_iff {i : Instr} {s t : State} (h : Ran s i t) (notReset : i ≠ .reset) :
    t.closeReq = true ↔ s.closeReq = true ∨ i = .rxfail := by
  by_cases isRxfail : i = .rxfail
  · subst isRxfail
    simp [h.closeReq_of_rxfail]
  · simp [h.closeReq_unchanged isRxfail notReset, isRxfail]

/-! ### The request stops nothing (R144) -/

/-- No condition and no written value of an operation depends on `closeReq`: with the request made
beforehand the operation runs to the same state with the request made afterwards. -/
theorem Ran.requestClose {i : Instr} {s t : State} (h : Ran s i t) (notReset : i ≠ .reset) :
    Ran s.requestClose i t.requestClose := by
  cases h with
  | reset => exact absurd rfl notReset
  | rxfail => exact .rxfail
  | push b room => exact .push b room
  | syncWait selected => exact .syncWait selected
  | syncExtract selected => exact .syncExtract selected
  | syncDiscard selected => exact .syncDiscard selected
  | decode f selected => exact .decode f selected
  | decodeErr input selected => exact .decodeErr input selected
  | avgBothErr r i on selected => exact .avgBothErr r i on selected
  | avgSnap r i on selected => exact .avgSnap r i on selected
  | avgHold r i on selected => exact .avgHold r i on selected
  | avgMean r i on selected => exact .avgMean r i on selected
  | encodeRequestData => exact .encodeRequestData
  | encodeMakePassive => exact .encodeMakePassive
  | encodeMakeActive => exact .encodeMakeActive
  | encodeSleep => exact .encodeSleep
  | encodeWakeUp => exact .encodeWakeUp
  | encodeUnknown k unknown => exact .encodeUnknown k unknown

/-- Settles O13, by the two writers of `closeReq` and its having no reader.  The answer is the same
even for `DECODE.ERR`: `RXFAIL` draws no free value. -/
theorem rxfailSetsTheStickyCloseRequest : Obligations.RxfailSetsTheStickyCloseRequest := by
  refine ⟨fun s => ⟨Ran.rxfail.exec_eq, fun standing => ?again⟩,
    fun i s t notReset h => ?otherThanReset, fun s t h => ?reset⟩
  case again =>
    rw [Ran.rxfail.exec_eq, State.requestClose_of_closeReq standing]
  case otherThanReset =>
    have ran := ran_of_exec h
    exact ⟨ran.closeReq_iff notReset, t.decResult, fun _ => rfl,
      (ran.requestClose notReset).exec_eq⟩
  case reset =>
    rw [(ran_of_exec h).eq_resetBlock, State.resetBlock_closeReq]

end Sys2Proof.Machine
end

section
/-! PROOFS of the statement on the reset operation (70_reset_and_hazards.md). -/

namespace Sys2Proof.Machine

/-! ### `RESET` (R160) -/

/-- Settles O11: `RESET` always runs, and its next state holds the table of R25 field by field. -/
theorem resetOperationRestoresEveryValue : Obligations.ResetOperationRestoresEveryValue := fun s =>
  ⟨s.resetBlock, Ran.reset.exec_eq, s.resetBlock_buf, s.resetBlock_pos, s.resetBlock_out,
    s.resetBlock_rdSeen, s.resetBlock_closeReq,
    fun _ => ⟨s.resetBlock_retained, s.resetBlock_avgFail⟩⟩

end Sys2Proof.Machine
end

section
/-! PROOFS of the statements on operation words (30_encoding.md). -/

namespace Sys2Proof.Machine

/-! ### The rows of the averaging engine (R58) -/

/-- The averaging row that two Readings select, by their error flags. -/
theorem decodeAvg_avgSelector (r i : Reading) :
    decodeAvg (avgSelector r i) r i =
      if r.isError then if i.isError then .avgBothErr r i else .avgSnap r i
      else if i.isError then .avgHold r i else .avgMean r i := by
  rw [avgSelector]
  cases r.isError <;> cases i.isError <;> rfl

/-! ### Round trip -/

/-- Settles O1, format by format: the selector bits in the word of a well-formed operation select
that operation. -/
theorem decodeEncodeAgree : Obligations.DecodeEncodeAgree := by
  intro i wf
  cases i with
  | reset => exact decode_portWord 0b1000 0 0
  | rxfail => exact decode_portWord 0b0100 0 0
  | push b => exact decode_portWord 0b0010 b 0
  | syncWait => exact decode_syncWord 0b00
  | syncExtract => exact decode_syncWord 0b11
  | syncDiscard => exact decode_syncWord 0b10
  | decode f => rw [encode, decode_dataWord, (decodeData_eq_decode_iff f).mpr wf]
  | decodeErr f =>
    have unselected : ¬decoderSelects f = true := by simpa [Instr.wellFormed] using wf
    rw [encode, decode_dataWord, (decodeData_eq_decodeErr_iff f).mpr unselected]
  | avgBothErr r i | avgSnap r i | avgHold r i | avgMean r i =>
    simp only [Instr.wellFormed, Bool.and_eq_true, Bool.not_eq_true'] at wf
    simp [encode, decode_avgWord, decodeAvg_avgSelector, wf]
  | encodeRequestData => exact decode_kindWord Kind.requestData.code
  | encodeMakePassive => exact decode_kindWord Kind.makePassive.code
  | encodeMakeActive => exact decode_kindWord Kind.makeActive.code
  | encodeSleep => exact decode_kindWord Kind.sleep.code
  | encodeWakeUp => exact decode_kindWord Kind.wakeUp.code
  | encodeUnknown k => rw [encode, decode_kindWord, decodeKind_of_five_le k (of_decide_eq_true wf)]

/-! ### What the decoder yields is well formed -/

theorem decodeKind_wellFormed (k : KindCode) : (decodeKind k).wellFormed = true := by
  revert k
  decide

theorem decodeSync_wellFormed (sel : BitVec 2) : (decodeSync sel).wellFormed = true := by
  revert sel
  decide

theorem decodeAvg_wellFormed (r i : Reading) :
    (decodeAvg (avgSelector r i) r i).wellFormed = true := by
  rw [decodeAvg_avgSelector]
  split_ifs <;> simp [Instr.wellFormed, *]

theorem decodeData_wellFormed (s : List Byte) : (decodeData s).wellFormed = true := by
  rw [decodeData]
  split_ifs <;> simp [Instr.wellFormed, *]

theorem wellFormed_of_decodePort {strobes : BitVec 4} {data : Byte} {kind : KindCode} {i : Instr}
    (h : decodePort strobes data kind = .ok i) : i.wellFormed = true := by
  unfold decodePort at h
  split_ifs at h
  · cases h; rfl
  · cases h; rfl
  · cases h; rfl
  · cases h; exact decodeKind_wellFormed kind

theorem wellFormed_of_decodeAvgWord {sel : BitVec 4} {operands : List Byte} {i : Instr}
    (h : decodeAvgWord sel operands = .ok i) : i.wellFormed = true := by
  unfold decodeAvgWord at h
  split at h
  · split_ifs at h
    cases h
    exact decodeAvg_wellFormed _ _
  · split_ifs at h

/-- Settles O2, format by format: the operation comes from the selector that its operands give. -/
theorem decodedOperationsAreWellFormed : Obligations.DecodedOperationsAreWellFormed := by
  intro word i h
  unfold decode at h
  split at h
  case h_1 => cases h
  case h_2 first operands =>
    dsimp only at h
    split at h
    case h_1 =>
      split at h
      · split_ifs at h
        exact wellFormed_of_decodePort h
      · cases h
    case h_2 =>
      split_ifs at h
      cases h
      exact decodeSync_wellFormed _
    case h_3 => exact wellFormed_of_decodeAvgWord h
    case h_4 =>
      split_ifs at h
      cases h
      exact decodeData_wellFormed operands
    case h_5 =>
      split_ifs at h
      cases h
      exact decodeKind_wellFormed _
    case h_6 => cases h

/-- Settles O3, by running the decoder on the words. -/
theorem sampleWordsDecode : Obligations.SampleWordsDecode := by
  unfold Obligations.SampleWordsDecode
  decide

end Sys2Proof.Machine
end

section
/-! PROOFS of the statements on what the operations change and what they depend on (00_scope.md,
20_memory.md, 60_exceptions.md). -/

namespace Sys2Proof.Machine

/-! ### Frames -/

/-- Settles O49: every clause of `Ran` but five writes the model's own fields only. -/
theorem onlyFiveOperationsChangeTheBlock : Obligations.OnlyFiveOperationsChangeTheBlock := by
  intro i s t h
  cases ran_of_exec h <;> simp

/-- No operation changes the build or the pending requests. -/
theorem Ran.environment_unchanged {i : Instr} {s t : State} (h : Ran s i t) :
    t.build = s.build ∧ t.sched = s.sched := by
  cases h <;> exact ⟨rfl, rfl⟩

/-- Settles O52: each clause of `Ran` writes at most the result of the unit its row belongs to. -/
theorem operationsWriteOnlyTheirOwnResults : Obligations.OperationsWriteOnlyTheirOwnResults := by
  intro i s t h
  have ran := ran_of_exec h
  obtain ⟨build, sched⟩ := ran.environment_unchanged
  refine ⟨build, sched, ?dec, ?avg, ?enc⟩
  case dec => cases ran <;> simp
  case avg => cases ran <;> simp
  case enc =>
    cases ran with
    | encodeRequestData => exact .inr (.inr ⟨Kind.requestData.code, rfl⟩)
    | encodeMakePassive => exact .inr (.inr ⟨Kind.makePassive.code, rfl⟩)
    | encodeMakeActive => exact .inr (.inr ⟨Kind.makeActive.code, rfl⟩)
    | encodeSleep => exact .inr (.inr ⟨Kind.sleep.code, rfl⟩)
    | encodeWakeUp => exact .inr (.inr ⟨Kind.wakeUp.code, rfl⟩)
    | encodeUnknown k unknown => exact .inr (.inr ⟨k, (decodeKind_of_five_le k unknown).symm⟩)
    | reset => exact .inr (.inl rfl)
    | _ => exact .inl rfl

/-! ### Commutation (R150, R40) -/

/-- Settles O53: the request made beforehand leads to the state with the request made afterwards. -/
theorem rxfailCommutesWithEveryOperation : Obligations.RxfailCommutesWithEveryOperation := by
  intro i s t u notReset h hu
  cases ran_of_exec hu
  exact ⟨t.requestClose, _, fun _ => rfl, ((ran_of_exec h).requestClose notReset).exec_eq,
    Ran.rxfail.exec_eq⟩

/-- Whether an operation runs depends on the buffer and the build alone. -/
theorem Ran.exists_of_same_buf {i : Instr} {s t u : State} (h : Ran s i t) (buf : u.buf = s.buf)
    (build : u.build = s.build) : ∃ v, Ran u i v := by
  cases h with
  | reset => exact ⟨_, .reset⟩
  | rxfail => exact ⟨_, .rxfail⟩
  | push b room => exact ⟨_, .push b (by rwa [State.rxReady, buf, build])⟩
  | syncWait selected => exact ⟨_, .syncWait (by rwa [buf])⟩
  | syncExtract selected => exact ⟨_, .syncExtract (by rwa [buf])⟩
  | syncDiscard selected => exact ⟨_, .syncDiscard (by rwa [buf])⟩
  | decode f selected => exact ⟨_, .decode f selected⟩
  | decodeErr input selected => exact ⟨_, .decodeErr input selected⟩
  | avgBothErr r i on selected => exact ⟨_, .avgBothErr r i (by rwa [build]) selected⟩
  | avgSnap r i on selected => exact ⟨_, .avgSnap r i (by rwa [build]) selected⟩
  | avgHold r i on selected => exact ⟨_, .avgHold r i (by rwa [build]) selected⟩
  | avgMean r i on selected => exact ⟨_, .avgMean r i (by rwa [build]) selected⟩
  | encodeRequestData => exact ⟨_, .encodeRequestData⟩
  | encodeMakePassive => exact ⟨_, .encodeMakePassive⟩
  | encodeMakeActive => exact ⟨_, .encodeMakeActive⟩
  | encodeSleep => exact ⟨_, .encodeSleep⟩
  | encodeWakeUp => exact ⟨_, .encodeWakeUp⟩
  | encodeUnknown k unknown => exact ⟨_, .encodeUnknown k unknown⟩

/-- The block after an operation does not depend on the model's own fields, but for the draw counter
from which `RESET` takes `rd`. -/
theorem Ran.block_congr {i : Instr} {s t v : State} {e : Option EncResult} {d : Nat}
    (h : Ran s i t) (h' : Ran { s with encResult := e, draws := d } i v) :
    (i ≠ .reset → t.toBlock = v.toBlock) ∧ { t.toBlock with rd := v.rd } = v.toBlock := by
  cases h with
  | reset => cases h'; exact ⟨fun notReset => absurd rfl notReset, rfl⟩
  | _ => cases h'; exact ⟨fun _ => rfl, rfl⟩

/-- Settles O48: an `ENCODE` writes only its result and the draw counter, on which no operation's
condition and no block but for `rd` after `RESET` depends. -/
theorem encodeCommutesWithEveryOperation : Obligations.EncodeCommutesWithEveryOperation := by
  intro k i s t u h hu
  have ran := ran_of_exec h
  obtain ⟨result, draws, encodes⟩ := exec_decodeKind k s
  cases hu.symm.trans encodes
  obtain ⟨_, _, encodesAfter⟩ := exec_decodeKind k t
  obtain ⟨w, ran'⟩ :=
    ran.exists_of_same_buf (u := { s with encResult := some result, draws := draws }) rfl rfl
  exact ⟨_, w, encodesAfter, ran'.exec_eq, ran.block_congr ran'⟩

/-! ### A build without the averaging engine (R4) -/

/-- The averaging rows are absent from a build without the engine (R58). -/
theorem answerAverage_of_absent {s : State} (off : s.build.avgEnable = false) (selector : BitVec 2)
    (result r i : Reading) : answerAverage selector result r i s = .refused .unitAbsent := by
  simp [answerAverage, off]

/-- Without the engine only `RESET` writes what the engine would hold. -/
theorem Ran.engine_unchanged {i : Instr} {s t : State} (h : Ran s i t)
    (off : s.build.avgEnable = false) (notReset : i ≠ .reset) :
    t.retained = s.retained ∧ t.avgFail = s.avgFail ∧ t.avgResult = s.avgResult := by
  cases h with
  | reset => exact absurd rfl notReset
  | syncExtract => simp [off]
  | avgBothErr _ _ on | avgSnap _ _ on | avgHold _ _ on | avgMean _ _ on => simp [on] at off
  | _ => exact ⟨rfl, rfl, rfl⟩

/-- Settles O42, by the rows' first condition and the update's condition. -/
theorem buildWithoutAveragingHasNoEngine : Obligations.BuildWithoutAveragingHasNoEngine := by
  intro s off
  refine ⟨fun r i => ⟨?_, ?_, ?_, ?_⟩,
    fun i t notReset h => (ran_of_exec h).engine_unchanged off notReset⟩
  all_goals exact answerAverage_of_absent off _ _ r i

/-- Settles O43: for each operation the two next states differ in what the engine holds and in
nothing else. -/
theorem restOfTheBlockIgnoresTheAverage : Obligations.RestOfTheBlockIgnoresTheAverage := by
  intro i s t s' enable retained fail result h h'
  have ran' := ran_of_exec h'
  cases ran_of_exec h with
  | _ => cases ran'; exact ⟨fun _ => rfl, fun _ => rfl, rfl, rfl⟩

/-! ### Operations that are not selected -/

/-- A synchronizer row that is not the one of the buffer's outcome is refused (R57). -/
theorem exec_row_of_syncOutcome_ne {s : State} {o : SyncOutcome} (h : syncOutcome s.buf ≠ o) :
    exec o.row s = .refused .notSelected := by
  cases o <;> exact if_neg h

/-- An averaging row that the two error flags do not select is refused (R58). -/
theorem answerAverage_of_flags_ne {s : State} (on : s.build.avgEnable = true)
    (retained incoming : Bool) {result r i : Reading}
    (h : (r.isError == retained && i.isError == incoming) = false) :
    answerAverage (BitVec.ofBool retained ++ BitVec.ofBool incoming) result r i s =
      .refused .notSelected := by
  have unselected : avgSelector r i ≠ BitVec.ofBool retained ++ BitVec.ofBool incoming := by
    rw [avgSelector]
    revert h
    generalize r.isError = a, i.isError = b
    revert a b retained incoming
    decide
  simp [answerAverage, on, unselected]

/-- Settles O20: each row's condition is that of its selector. -/
theorem unselectedOperationsAreNoSteps : Obligations.UnselectedOperationsAreNoSteps := by
  intro s
  rw [← hasMarker_iff]
  refine ⟨fun enough => ?wait, fun unselected => ?extract, fun unselected => ?discard,
    fun f unselected => ?decode, fun f selected => ?decodeErr, fun r i on => ?average,
    fun k known => ?unknown⟩
  case wait =>
    exact exec_row_of_syncOutcome_ne (o := .wait) (by rw [ne_eq, syncOutcome_wait_iff]; omega)
  case extract =>
    exact exec_row_of_syncOutcome_ne (o := .extract) (by rwa [ne_eq, syncOutcome_extract_iff])
  case discard =>
    exact exec_row_of_syncOutcome_ne (o := .discard)
      (by rwa [ne_eq, syncOutcome_discard_iff, ← Bool.not_eq_true])
  case decode => simp [exec, execDecode, unselected]
  case decodeErr => simp [exec, execDecodeErr, selected]
  case average =>
    exact ⟨fun h => answerAverage_of_flags_ne on true true (by simpa using h),
      fun h => answerAverage_of_flags_ne on true false (by simpa using h),
      fun h => answerAverage_of_flags_ne on false true (by simpa using h),
      fun h => answerAverage_of_flags_ne on false false (by simpa using h)⟩
  case unknown => simp [exec, execEncodeUnknown, known]

/-! ### Anomalies (R140) -/

/-- The checksum flag compares the exact byte sum with the checksum field (R97). -/
theorem frameChecksumValid_eq_false_iff (f : List Byte) :
    frameChecksumValid f = false ↔ sum8 f 0 30 ≠ (be16 f 30).toNat := by
  rw [← Bool.not_eq_true, frameChecksumValid_iff, be16_toNat]
  rfl

@[simp] theorem checksumAnomaly_eq_some_iff (valid : Bool) (a : Anomaly) :
    checksumAnomaly valid = some a ↔ valid = false ∧ a = .checksumMismatch := by
  cases valid <;> cases a <;> simp [checksumAnomaly]

theorem raised_eq_unrecognizedCommand_iff (i : Instr) (s : State) :
    raised i s = some .unrecognizedCommand ↔ ∃ k, i = .encodeUnknown k := by
  cases i <;> simp [raised]

theorem raised_eq_transportFailure_iff (i : Instr) (s : State) :
    raised i s = some .transportFailure ↔ i = .rxfail := by
  cases i <;> simp [raised]

theorem raised_eq_structuralError_iff (i : Instr) (s : State) :
    raised i s = some .structuralError ↔ ∃ f, i = .decodeErr f := by
  cases i <;> simp [raised]

theorem raised_eq_checksumMismatch_iff (i : Instr) (s : State) :
    raised i s = some .checksumMismatch ↔
      (∃ f, i = .decode f ∧ sum8 f 0 30 ≠ (be16 f 30).toNat) ∨
      (i = .syncExtract ∧ sum8 s.candidate 0 30 ≠ (be16 s.candidate 30).toNat) := by
  simp only [← frameChecksumValid_eq_false_iff]
  cases i <;> simp [raised]

/-- The operations that can raise an anomaly are the two of the decoder, `SYNC.EXTRACT`, `RXFAIL`
and `ENCODE.UNKNOWN`. -/
theorem raised_eq_none {i : Instr} (s : State) (notDecoder : ∀ f, i ≠ .decode f ∧ i ≠ .decodeErr f)
    (notExtract : i ≠ .syncExtract) (notRxfail : i ≠ .rxfail)
    (notUnknown : ∀ k, i ≠ .encodeUnknown k) : raised i s = none := by
  cases i with
  | decode f => exact absurd rfl (notDecoder f).1
  | decodeErr f => exact absurd rfl (notDecoder f).2
  | syncExtract => exact absurd rfl notExtract
  | rxfail => exact absurd rfl notRxfail
  | encodeUnknown k => exact absurd rfl (notUnknown k)
  | _ => rfl

/-- The Reading a decoding row answers shows the anomaly the row raised (R99). -/
theorem Ran.decResult_shows_raised {i : Instr} {s t : State} (h : Ran s i t) {f : List Byte}
    (decodes : i = .decode f ∨ i = .decodeErr f) :
    t.decResult.map readingAnomaly = some (raised i s) := by
  obtain rfl | rfl := decodes <;> cases h <;> rfl

/-- Settles O55: which anomaly is raised is read off the operation, and what records it off what the
operation writes. -/
theorem anomaliesAreRecordedInTheirFlags : Obligations.AnomaliesAreRecordedInTheirFlags := by
  intro i s t h
  have ran := ran_of_exec h
  refine ⟨fun f => ran.decResult_shows_raised, ?emitted, raised_eq_unrecognizedCommand_iff i s,
    ?unknown, raised_eq_transportFailure_iff i s, ?closing, raised_eq_structuralError_iff i s,
    raised_eq_checksumMismatch_iff i s, raised_eq_none s⟩
  case emitted =>
    rintro rfl
    rw [ran.eq_extract]
    rfl
  case unknown =>
    rw [raised_eq_unrecognizedCommand_iff]
    rintro ⟨k, rfl⟩
    cases ran
    rfl
  case closing =>
    rw [raised_eq_transportFailure_iff]
    rintro rfl
    exact ran.closeReq_of_rxfail

end Sys2Proof.Machine
end

section
/-! PROOFS of the further statements on the frame decoder (41_decode.md). -/

namespace Sys2Proof.Machine

/-! ### `DECODE.ERR` (R91) -/

/-- The decoder's input test on the bytes themselves (R59). -/
theorem decoderSelects_iff_bytes (s : List Byte) :
    decoderSelects s = true ↔ s.length = 32 ∧ s[0]? = some 0x42#8 ∧ s[1]? = some 0x4D#8 := by
  rw [decoderSelects_iff, hasMarker_iff]

/-- Settles O34: the input selects `DECODE.ERR`, whose answer is the drawn Reading marked as
error. -/
theorem decodeErrOnlySetsIsError : Obligations.DecodeErrOnlySetsIsError := by
  intro s input bad
  rw [← decoderSelects_iff_bytes, Bool.not_eq_true] at bad
  exact ⟨errorReading s.draws, (Ran.decodeErr input bad).exec_eq, rfl⟩

/-! ### The range of a valid checksum field (R97) -/

/-- Settles O30: the byte sum of a frame that reaches the decoder is inside the range, and a valid
field equals it. -/
theorem checksumFieldOutsideTheRangeIsInvalid :
    Obligations.ChecksumFieldOutsideTheRangeIsInvalid := by
  intro f len first second outside
  obtain ⟨-, -, range⟩ := checksumAccumulatorNeverOverflows f len
  obtain ⟨lower, upper⟩ := range first second
  by_contra valid
  have sum := (frameChecksumValid_iff f).mp (by simpa [decodeFrame] using valid)
  rw [← be16_toNat f 30] at sum
  omega

/-! ### Replacing one byte -/

theorem be16_eq_iff (f g : List Byte) (k : Nat) :
    be16 f k = be16 g k ↔ f.getD k 0 = g.getD k 0 ∧ f.getD (k + 1) 0 = g.getD (k + 1) 0 := by
  have := (f.getD (k + 1) 0).isLt
  have := (g.getD (k + 1) 0).isLt
  rw [← BitVec.toNat_inj, be16_toNat, be16_toNat, ← BitVec.toNat_inj, ← BitVec.toNat_inj]
  omega

theorem getD_set_self {f : List Byte} {i : Nat} (inside : i < f.length) (v : Byte) :
    (f.set i v).getD i 0 = v := by
  simp [List.getD, inside]

theorem getD_set_of_ne (f : List Byte) {i k : Nat} (h : i ≠ k) (v : Byte) :
    (f.set i v).getD k 0 = f.getD k 0 := by
  simp [List.getD, h]

/-- Replacing a byte by another one changes the byte at its own offset only. -/
theorem getD_set_eq_iff {f : List Byte} {i : Nat} {v : Byte} (inside : i < f.length)
    (new : v ≠ f.getD i 0) (k : Nat) : (f.set i v).getD k 0 = f.getD k 0 ↔ i ≠ k := by
  refine ⟨?_, fun h => getD_set_of_ne f h v⟩
  rintro same rfl
  exact new (by rwa [getD_set_self inside] at same)

/-- It changes exactly the 16-bit fields that hold the byte. -/
theorem be16_set_ne_iff {f : List Byte} {i : Nat} {v : Byte} (inside : i < f.length)
    (new : v ≠ f.getD i 0) (k : Nat) : be16 (f.set i v) k ≠ be16 f k ↔ i = k ∨ i = k + 1 := by
  rw [ne_eq, be16_eq_iff, getD_set_eq_iff inside new, getD_set_eq_iff inside new]
  omega

theorem decodeFrame_measurement (f : List Byte) (x : Measurement) :
    (decodeFrame f).measurement x = be16 f (measurementOffset x) := by
  cases x <;> rfl

/-- The byte sum that the checksum covers (R96). -/
def coveredSum (f : List Byte) : Nat := ((f.take 30).map BitVec.toNat).sum

/-- The checksum flag compares the covered sum with the checksum field (R97). -/
theorem frameChecksumValid_iff_coveredSum (f : List Byte) :
    frameChecksumValid f = true ↔ coveredSum f = (be16 f 30).toNat := by
  rw [be16_toNat]
  exact frameChecksumValid_iff f

/-- Replacing a byte moves a sum of bytes by the difference. -/
theorem sum_set_add {l : List Byte} {i : Nat} (inside : i < l.length) (v : Byte) :
    ((l.set i v).map BitVec.toNat).sum + (l.getD i 0).toNat =
      (l.map BitVec.toNat).sum + v.toNat := by
  induction l generalizing i with
  | nil => cases inside
  | cons b l ih =>
    cases i with
    | zero =>
      simp only [List.set_cons_zero, List.map_cons, List.sum_cons, List.getD_cons_zero]
      omega
    | succ i =>
      have moved := ih (i := i) (Nat.lt_of_succ_lt_succ inside)
      simp only [List.set_cons_succ, List.map_cons, List.sum_cons, List.getD_cons_succ]
      omega

/-- A covered byte moves the covered sum by the difference. -/
theorem coveredSum_set {f : List Byte} {i : Nat} (len : f.length = 32) (covered : i < 30)
    (v : Byte) : coveredSum (f.set i v) + (f.getD i 0).toNat = coveredSum f + v.toNat := by
  have inside : i < (f.take 30).length := by simp [len, covered]
  have same : (f.take 30).getD i 0 = f.getD i 0 := by simp [List.getD, covered]
  rw [coveredSum, List.take_set, ← same]
  exact sum_set_add inside v

/-- The checksum field does not count in the covered sum. -/
theorem coveredSum_set_field (f : List Byte) {i : Nat} (field : 30 ≤ i) (v : Byte) :
    coveredSum (f.set i v) = coveredSum f := by
  rw [coveredSum, List.take_set_of_le field, coveredSum]

/-- A covered byte leaves the checksum field alone. -/
theorem be16_set_covered (f : List Byte) {i : Nat} (covered : i < 30) (v : Byte) :
    be16 (f.set i v) 30 = be16 f 30 := by
  rw [be16_eq_iff]
  exact ⟨getD_set_of_ne f (by omega) v, getD_set_of_ne f (by omega) v⟩

/-! ### A corrupted byte (R103) -/

/-- One replaced byte of a valid frame moves either the covered sum or the checksum field, never
both. -/
theorem frameChecksumValid_set {f : List Byte} {i : Nat} {v : Byte} (len : f.length = 32)
    (valid : frameChecksumValid f = true) (inside : i < 32) (new : v ≠ f.getD i 0) :
    frameChecksumValid (f.set i v) = false := by
  rw [← Bool.not_eq_true, frameChecksumValid_iff_coveredSum]
  rw [frameChecksumValid_iff_coveredSum] at valid
  by_cases covered : i < 30
  · have sum := coveredSum_set len covered v
    have moved : v.toNat ≠ (f.getD i 0).toNat := mt BitVec.eq_of_toNat_eq new
    rw [be16_set_covered f covered]
    omega
  · have moved := (be16_set_ne_iff (len ▸ inside) new 30).mpr (by omega)
    rw [coveredSum_set_field f (by omega), valid]
    exact fun same => moved (BitVec.eq_of_toNat_eq same.symm)

/-- A byte behind the marker does not change what the input selects. -/
theorem decoderSelects_set {f : List Byte} {i : Nat} (behind : 2 ≤ i) (v : Byte) :
    decoderSelects (f.set i v) = decoderSelects f := by
  have first : i ≠ 0 := by omega
  have second : i ≠ 1 := by omega
  simp [decoderSelects, hasMarker, first, second]

/-- A changed marker byte is no marker. -/
theorem hasMarker_set {f : List Byte} {i : Nat} {v : Byte} (marker : hasMarker f = true)
    (inside : i < f.length) (head : i < 2) (new : v ≠ f.getD i 0) :
    hasMarker (f.set i v) = false := by
  rw [hasMarker_iff] at marker
  obtain ⟨first, second⟩ := marker
  rw [← Bool.not_eq_true, hasMarker_iff]
  rintro ⟨first', second'⟩
  have same : (f.set i v).getD i 0 = f.getD i 0 := by
    obtain rfl | rfl : i = 0 ∨ i = 1 := by omega
    · rw [List.getD, List.getD, first, first']
    · rw [List.getD, List.getD, second, second']
  exact (getD_set_eq_iff inside new i).mp same rfl

/-- Settles O32: the byte lies in the marker, in one field, or in the checksum field. -/
theorem singleByteCorruptionIsSeen : Obligations.SingleByteCorruptionIsSeen := by
  intro f i v len first second valid inside new g
  have inside' : i < f.length := len ▸ inside
  refine ⟨fun behind => ⟨?selects, frameChecksumValid_set len valid inside new,
    be16_set_ne_iff inside' new 2, fun x => ?measurement, ?version, ?errorCode⟩, fun head => ?head⟩
  case selects =>
    rw [decoderSelects_set behind, decoderSelects_of_marker len first second]
  case measurement =>
    rw [decodeFrame_measurement, decodeFrame_measurement]
    exact be16_set_ne_iff inside' new _
  case version => exact (not_congr (getD_set_eq_iff inside' new 28)).trans not_not
  case errorCode => exact (not_congr (getD_set_eq_iff inside' new 29)).trans not_not
  case head =>
    have noMarker := hasMarker_set ((hasMarker_iff f).mpr ⟨first, second⟩) inside' head new
    rw [decode_dataWord, (decodeData_eq_decodeErr_iff g).mpr]
    simp [decoderSelects_iff, g, noMarker]

/-! ### What the checksum cannot see (R104) -/

/-- Two covered bytes replaced by two of the same sum keep the checksum flag. -/
theorem frameChecksumValid_set_set {f : List Byte} {i j : Nat} (len : f.length = 32) (hi : i < 30)
    (hj : j < 30) {v w : Byte}
    (balanced : v.toNat + w.toNat = (f.getD i 0).toNat + ((f.set i v).getD j 0).toNat) :
    frameChecksumValid ((f.set i v).set j w) = frameChecksumValid f := by
  have sum := coveredSum_set len hi v
  have sum' := coveredSum_set (f := f.set i v) (by simpa using len) hj w
  have same : coveredSum ((f.set i v).set j w) = coveredSum f := by omega
  rw [Bool.eq_iff_iff, frameChecksumValid_iff_coveredSum, frameChecksumValid_iff_coveredSum, same,
    be16_set_covered _ hj, be16_set_covered _ hi]

/-- Settles O33: in both cases the two new bytes have the sum of the two old ones. -/
theorem checksumCannotSeeReordering : Obligations.ChecksumCannotSeeReordering := by
  intro f i j len hi hj
  refine ⟨?exchange, fun d apart small enough => ?compensate⟩
  case exchange =>
    have second : (f.set i (f.getD j 0)).getD j 0 = f.getD j 0 := by
      by_cases same : i = j
      · subst same
        exact getD_set_self (by omega) _
      · exact getD_set_of_ne f same _
    exact frameChecksumValid_set_set len hi hj (by rw [second]; omega)
  case compensate =>
    have bound := (f.getD j 0).isLt
    refine frameChecksumValid_set_set len hi hj ?_
    rw [getD_set_of_ne f apart, BitVec.toNat_ofNat, BitVec.toNat_ofNat, Nat.mod_eq_of_lt small,
      Nat.mod_eq_of_lt (by omega)]
    omega

end Sys2Proof.Machine
end

section
/-! PROOFS of the further statements on the averaging engine (42_averaging.md). -/

namespace Sys2Proof.Machine

/-! ### The row that the error flags select (R110) -/

/-- The row that the two error flags select answers `combine` and the both-error report. -/
theorem exec_decodeAvg {s : State} (on : s.build.avgEnable = true) (r i : Reading) :
    exec (decodeAvg (avgSelector r i) r i) s =
      .next { s with avgResult := some (combine r i, updateFailed r i) } := by
  have selector := avgSelector_cases r i
  rw [decodeAvg_avgSelector, combine]
  cases hr : r.isError <;> cases hi : i.isError <;> rw [hr, hi] at selector
  · exact (Ran.avgMean r i on selector).exec_eq
  · exact (Ran.avgHold r i on selector).exec_eq
  · exact (Ran.avgSnap r i on selector).exec_eq
  · exact (Ran.avgBothErr r i on selector).exec_eq

/-- `SNAP`: a good incoming Reading replaces a retained one in error whole (R113). -/
theorem combine_of_retained_error {r i : Reading} (bad : r.isError = true)
    (good : i.isError = false) : combine r i = i := by
  rw [combine, bad, good]
  rfl

/-- What all four rows take from the incoming Reading, with its error flag known. -/
theorem combine_others_of_isError (r : Reading) {i : Reading} {e : Bool} (h : i.isError = e) :
    (combine r i).frameLength = i.frameLength ∧ (combine r i).version = i.version ∧
      (combine r i).errorCode = i.errorCode ∧ (combine r i).checksumValid = i.checksumValid ∧
      (combine r i).isError = e :=
  h ▸ combine_others r i

/-- Settles O35: both errors select this row, and `combine` keeps the retained fields. -/
theorem averageOfTwoErrorsKeepsTheFields : Obligations.AverageOfTwoErrorsKeepsTheFields := by
  intro s r i on bad bad'
  refine ⟨combine r i, ?runs, combine_measurement_of_incoming_error r bad',
    combine_others_of_isError r bad'⟩
  simpa [decodeAvg_avgSelector, updateFailed, bad, bad'] using exec_decodeAvg on r i

/-- Settles O36: only the retained error selects this row, and `combine` is the incoming Reading. -/
theorem averageSnapsToTheGoodReading : Obligations.AverageSnapsToTheGoodReading := by
  intro s r i on bad good
  simpa [decodeAvg_avgSelector, updateFailed, bad, good, combine_of_retained_error bad good]
    using exec_decodeAvg on r i

/-- Settles O37: only the incoming error selects this row, and `combine` keeps the retained
fields. -/
theorem averageHoldsTheLastGoodFields : Obligations.AverageHoldsTheLastGoodFields := by
  intro s r i on good bad
  refine ⟨combine r i, ?runs, combine_measurement_of_incoming_error r bad,
    combine_others_of_isError r bad⟩
  simpa [decodeAvg_avgSelector, updateFailed, good, bad] using exec_decodeAvg on r i

/-- Settles O38: no error selects this row, and `combine` gives the exact means. -/
theorem averageOfTwoGoodReadingsIsTheFloor : Obligations.AverageOfTwoGoodReadingsIsTheFloor := by
  intro s r i on good good'
  refine ⟨combine r i, ?runs, combine_measurement_toNat_of_good good good',
    combine_others_of_isError r good'⟩
  simpa [decodeAvg_avgSelector, updateFailed, good, good'] using exec_decodeAvg on r i

/-- Settles O40: the selected row and the extraction report the same update. -/
theorem everyUpdateOverwritesTheOtherFields : Obligations.EveryUpdateOverwritesTheOtherFields := by
  refine ⟨fun s r i on => exec_decodeAvg on r i, combine_others, fun s t on h => ?extraction⟩
  rw [(ran_of_exec h).extract_averages.2, State.average_avgFail, if_pos on, updateFailed]

/-! ### The retained Reading in a run (R121) -/

/-- A fold of good Readings is in error only where nothing was folded. -/
theorem foldl_combine_isError (start : Reading) {out : List Reading}
    (good : ∀ r ∈ out, r.isError = false) (nonempty : out ≠ []) :
    (out.foldl combine start).isError = false := by
  obtain ⟨earlier, last, rfl⟩ := (List.eq_nil_or_concat' out).resolve_left nonempty
  obtain ⟨-, -, -, -, isError⟩ := combine_others (earlier.foldl combine start) last
  rw [List.foldl_append, List.foldl_cons, List.foldl_nil, isError]
  exact good last (by simp)

/-- In a state of the invariant `retained` is in error exactly until the first emission. -/
theorem State.Inv.retained_isError {s : State} (inv : s.Inv) (on : s.build.avgEnable = true) :
    s.retained.isError = s.out.isEmpty := by
  obtain ⟨-, -, -, good, fold, -, -⟩ := inv
  rw [fold on]
  by_cases nothing : s.out = []
  · rw [nothing]
    rfl
  · rw [foldl_combine_isError _ good nothing, List.isEmpty_eq_false_iff.mpr nothing]

/-- Settles O41: until the first emission the retained Reading is in error, and the extraction
snaps; afterwards it is good, and the extraction averages. -/
theorem firstExtractionSnapsAndLaterOnesAverage :
    Obligations.FirstExtractionSnapsAndLaterOnesAverage := by
  intro s inv on enough first second r
  have flag := inv.retained_isError on
  obtain ⟨good, runs⟩ := extractRemovesAndEmitsOneFrame s enough first second
  obtain ⟨-, -, -, -, isError⟩ := combine_others s.retained r
  simp only [if_pos on] at runs
  refine ⟨_, runs, ?avgFail, isError.trans good, fun nothing => ?snap, fun emitted => ?mean⟩
  case avgFail => exact (congrArg _ good).trans (Bool.and_false _)
  case snap => exact combine_of_retained_error (by rw [flag, nothing]; rfl) good
  case mean =>
    have retainedGood := flag.trans (List.isEmpty_eq_false_iff.mpr emitted)
    exact combine_measurement_toNat_of_good retainedGood good

end Sys2Proof.Machine
end

section
/-! PROOFS of the statements on the synchronizer loop and the stream (40_sync.md,
70_reset_and_hazards.md). -/

namespace Sys2Proof.Machine

/-! ### The positions of a stream (R80) -/

theorem markerAt_drop (S : List Byte) (k p : Nat) :
    markerAt (S.drop k) p = markerAt S (k + p) := by
  simp [markerAt, Nat.add_assoc]

theorem add_nextPosition_drop (S : List Byte) (k p : Nat) :
    k + nextPosition (S.drop k) p = nextPosition S (k + p) := by
  rw [nextPosition, nextPosition, markerAt_drop]
  split <;> rfl

/-- The positions of a stream without its first `k` bytes are the positions from `k` on. -/
theorem map_add_positionsFrom_drop (S : List Byte) (k fuel p : Nat) :
    (positionsFrom (S.drop k) fuel p).map (k + ·) = positionsFrom S fuel (k + p) := by
  induction fuel generalizing p with
  | zero => rfl
  | succ fuel ih =>
    have enabled : p + 32 ≤ (S.drop k).length ↔ k + p + 32 ≤ S.length := by
      rw [List.length_drop]; omega
    simp only [positionsFrom, enabled]
    split
    · rw [List.map_cons, ih, add_nextPosition_drop]
    · rfl

theorem lt_nextPosition (S : List Byte) (p : Nat) : p < nextPosition S p := by
  unfold nextPosition
  split <;> omega

/-- Fuel for every byte behind `p` is enough: more of it finds no more positions. -/
theorem positionsFrom_eq_of_enough (S : List Byte) {fuel fuel' p : Nat}
    (enough : S.length ≤ p + fuel) (enough' : S.length ≤ p + fuel') :
    positionsFrom S fuel p = positionsFrom S fuel' p := by
  induction fuel generalizing fuel' p with
  | zero =>
    cases fuel' with
    | zero => rfl
    | succ fuel' => exact (if_neg (by omega)).symm
  | succ fuel ih =>
    cases fuel' with
    | zero => exact if_neg (by omega)
    | succ fuel' =>
      have := lt_nextPosition S p
      rw [positionsFrom, positionsFrom, ih (fuel' := fuel') (by omega) (by omega)]

theorem positions_of_short {S : List Byte} (short : S.length < 32) : positions S = [] := by
  rw [positions]
  cases S.length with
  | zero => rfl
  | succ n => exact if_neg (by omega)

/-- The first position is the head; the others are those of the stream behind the step taken
there. -/
theorem positions_of_enabled {S : List Byte} (enabled : 32 ≤ S.length) :
    positions S =
      0 :: (positions (S.drop (nextPosition S 0))).map (nextPosition S 0 + ·) := by
  have moved := lt_nextPosition S 0
  obtain ⟨n, len⟩ : ∃ n, S.length = n + 1 := ⟨S.length - 1, by omega⟩
  have others : positionsFrom S n (nextPosition S 0) =
      positionsFrom S (S.drop (nextPosition S 0)).length (nextPosition S 0) :=
    positionsFrom_eq_of_enough S (by omega) (by rw [List.length_drop]; omega)
  rw [positions, positions, map_add_positionsFrom_drop, Nat.add_zero, ← others, len, positionsFrom,
    if_pos (by omega)]

/-! ### The Readings and the stop of a stream -/

theorem streamReadings_of_short {S : List Byte} (short : S.length < 32) :
    streamReadings S = [] := by
  rw [streamReadings, positions_of_short short]
  rfl

theorem stopPosition_of_short {S : List Byte} (short : S.length < 32) : stopPosition S = 0 := by
  rw [stopPosition, positions_of_short short]
  rfl

/-- What the step at the head of a stream emits. -/
def headReadings (S : List Byte) : List Reading :=
  if hasMarker S then [decodeFrame (S.take 32)] else []

/-- The Readings of a stream: what the step at its head emits, then those of the stream behind that
step. -/
theorem streamReadings_of_enabled {S : List Byte} (enabled : 32 ≤ S.length) :
    streamReadings S = headReadings S ++ streamReadings (S.drop (nextPosition S 0)) := by
  have candidate (k p : Nat) : candidateAt S (k + p) = candidateAt (S.drop k) p := by
    simp [candidateAt]
  have behind (k : Nat) :
      (((positions (S.drop k)).map (k + ·)).filter (markerAt S)).map
        (fun p => decodeFrame (candidateAt S p)) = streamReadings (S.drop k) := by
    simp [streamReadings, List.filter_map, Function.comp_def, ← markerAt_drop, candidate]
  rw [← behind, streamReadings, positions_of_enabled enabled, List.filter_cons, headReadings]
  by_cases head : hasMarker S = true
  · rw [if_pos head, if_pos (show markerAt S 0 = true from head)]
    rfl
  · rw [if_neg head, if_neg (show ¬markerAt S 0 = true from head)]
    rfl

/-- The stop of a stream is that of the stream behind the step at its head. -/
theorem stopPosition_of_enabled {S : List Byte} (enabled : 32 ≤ S.length) :
    stopPosition S = nextPosition S 0 + stopPosition (S.drop (nextPosition S 0)) := by
  rw [stopPosition, stopPosition, positions_of_enabled enabled, List.getLast?_cons,
    List.getLast?_map]
  cases (positions (S.drop (nextPosition S 0))).getLast? with
  | none => rfl
  | some p => exact (add_nextPosition_drop S _ p).symm

/-! ### The step at the head does not look behind the first 32 bytes -/

section Append

variable {buf : List Byte} (enabled : 32 ≤ buf.length) (more : List Byte)
include enabled

theorem hasMarker_append : hasMarker (buf ++ more) = hasMarker buf := by
  rw [hasMarker, hasMarker, List.getElem?_append_left (by omega),
    List.getElem?_append_left (by omega)]

theorem nextPosition_zero_append : nextPosition (buf ++ more) 0 = nextPosition buf 0 := by
  have marker : markerAt (buf ++ more) 0 = markerAt buf 0 := hasMarker_append enabled more
  rw [nextPosition, nextPosition, marker]

theorem headReadings_append : headReadings (buf ++ more) = headReadings buf := by
  rw [headReadings, headReadings, hasMarker_append enabled, List.take_append_of_le_length enabled]

theorem nextPosition_zero_le : nextPosition buf 0 ≤ buf.length := by
  unfold nextPosition
  split <;> omega

theorem drop_nextPosition_append : (buf ++ more).drop (nextPosition (buf ++ more) 0) =
    buf.drop (nextPosition buf 0) ++ more := by
  rw [nextPosition_zero_append enabled,
    List.drop_append_of_le_length (nextPosition_zero_le enabled)]

theorem syncOutcome_append : syncOutcome (buf ++ more) = syncOutcome buf := by
  have enabled' : 32 ≤ (buf ++ more).length := by rw [List.length_append]; omega
  rw [syncOutcome, syncOutcome, hasMarker_append enabled, if_neg (not_lt.mpr enabled),
    if_neg (not_lt.mpr enabled')]

end Append

/-! ### The synchronizer's step (R70) -/

/-- The next state of the row that the buffer selects. -/
def State.syncStep (s : State) : State :=
  match syncOutcome s.buf with
  | .wait => s
  | .extract => s.extract
  | .discard => s.discard

/-- The selected row runs in every state (R57). -/
theorem ran_syncStep (s : State) : Ran s (syncOutcome s.buf).row s.syncStep := by
  rw [State.syncStep]
  cases selected : syncOutcome s.buf with
  | wait => exact .syncWait selected
  | extract => exact .syncExtract selected
  | discard => exact .syncDiscard selected

theorem State.syncStep_of_quiescent {s : State} (quiet : s.quiescent) : s.syncStep = s := by
  rw [State.syncStep, (syncOutcome_wait_iff s.buf).mpr quiet]

/-- An enabled step takes the bytes at the head that the stream's next position leaves behind, and
emits what the stream emits there. -/
theorem State.syncStep_of_enabled {s : State} (enabled : 32 ≤ s.buf.length) :
    s.syncStep.buf = s.buf.drop (nextPosition s.buf 0) ∧
      s.syncStep.pos = s.pos + nextPosition s.buf 0 ∧
      s.syncStep.out = s.out ++ headReadings s.buf := by
  have next : nextPosition s.buf 0 = if hasMarker s.buf then 0 + 32 else 0 + 1 := rfl
  rw [next, headReadings, State.syncStep]
  cases marker : hasMarker s.buf with
  | true =>
    rw [(syncOutcome_extract_iff s.buf).mpr ⟨enabled, marker⟩]
    exact ⟨rfl, rfl, rfl⟩
  | false =>
    rw [(syncOutcome_discard_iff s.buf).mpr ⟨enabled, marker⟩]
    exact ⟨rfl, rfl, (List.append_nil _).symm⟩

/-- An enabled step removes a byte at least (R78). -/
theorem State.syncStep_progress {s : State} (enabled : 32 ≤ s.buf.length) :
    s.syncStep.buf.length < s.buf.length ∧ s.pos < s.syncStep.pos := by
  obtain ⟨buf, pos, -⟩ := State.syncStep_of_enabled enabled
  have moved := lt_nextPosition s.buf 0
  rw [buf, pos, List.length_drop]
  omega

theorem State.syncStep_buf_length_le (s : State) : s.syncStep.buf.length ≤ s.buf.length := by
  by_cases quiet : s.quiescent
  · rw [State.syncStep_of_quiescent quiet]
  · exact (State.syncStep_progress (not_lt.mp quiet)).1.le

/-- The state with more bytes at the tail of the buffer. -/
def State.bufAppend (s : State) (bytes : List Byte) : State := { s with buf := s.buf ++ bytes }

@[simp] theorem State.bufAppend_buf (s : State) (bytes : List Byte) :
    (s.bufAppend bytes).buf = s.buf ++ bytes := rfl

/-- An enabled step is the same whatever stands behind the bytes that enable it. -/
theorem State.syncStep_bufAppend {s : State} (enabled : 32 ≤ s.buf.length) (bytes : List Byte) :
    (s.bufAppend bytes).syncStep = s.syncStep.bufAppend bytes := by
  have candidate : (s.bufAppend bytes).candidate = s.candidate :=
    List.take_append_of_le_length enabled
  have extracted : (s.buf ++ bytes).drop 32 = s.buf.drop 32 ++ bytes :=
    List.drop_append_of_le_length enabled
  have discarded : (s.buf ++ bytes).drop 1 = s.buf.drop 1 ++ bytes :=
    List.drop_append_of_le_length (by omega)
  rw [State.syncStep, State.syncStep, State.bufAppend_buf, syncOutcome_append enabled]
  cases syncOutcome s.buf with
  | wait => rfl
  | extract =>
    simp only [State.extract, candidate]
    simp only [State.bufAppend, State.bufPop, State.average, State.emit, Config.frameSize,
      extracted]
    rfl
  | discard => simp only [State.bufAppend, State.discard, State.bufPop, discarded]

/-- Settles O54: a pushed byte stands behind the bytes that enable the step. -/
theorem pushCommutesWithTheSynchronizerStep : Obligations.PushCommutesWithTheSynchronizerStep := by
  intro b s room enabled i
  have selected : i = (syncOutcome s.buf).row := decodeSync_syncSelector s.buf
  have same : syncOutcome (s.bufPush b).buf = syncOutcome s.buf := syncOutcome_append enabled [b]
  have selected' : decodeSync (syncSelector (s.bufPush b).buf) = i := by
    rw [decodeSync_syncSelector, same, selected]
  have roomAfter : s.syncStep.rxReady = true := by
    obtain ⟨build, -⟩ := (ran_syncStep s).environment_unchanged
    have shorter := s.syncStep_buf_length_le
    unfold State.rxReady capAdmits at room ⊢
    rw [build]
    split at room
    · rfl
    · simp only [decide_eq_true_eq] at room ⊢
      omega
  refine ⟨s.bufPush b, s.syncStep, s.syncStep.bufPush b, (Ran.push b room).exec_eq,
    selected ▸ (ran_syncStep s).exec_eq, selected', ?_, (Ran.push b roomAfter).exec_eq⟩
  have runs := (ran_syncStep (s.bufPush b)).exec_eq
  rw [same, ← selected] at runs
  rw [runs]
  exact congrArg _ (State.syncStep_bufAppend enabled [b])

/-! ### The account of the stream (R80) -/

/-- What the synchronizer will have emitted, where it will stop, and what it will leave, once it has
worked through the buffered bytes followed by the offered ones. -/
def State.account (s : State) (offered : List Byte) : List Reading × Nat × List Byte :=
  (s.out ++ streamReadings (s.buf ++ offered), s.pos + stopPosition (s.buf ++ offered),
    (s.buf ++ offered).drop (stopPosition (s.buf ++ offered)))

/-- A quiescent state with nothing offered has done what its account says. -/
theorem State.account_of_quiescent {s : State} (quiet : s.quiescent) :
    s.account [] = (s.out, s.pos, s.buf) := by
  simp [State.account, streamReadings_of_short quiet, stopPosition_of_short quiet]

/-- The synchronizer's step keeps the account. -/
theorem State.account_syncStep (s : State) (offered : List Byte) :
    s.syncStep.account offered = s.account offered := by
  by_cases quiet : s.quiescent
  · rw [State.syncStep_of_quiescent quiet]
  · have enabled : 32 ≤ s.buf.length := not_lt.mp quiet
    have enabled' : 32 ≤ (s.buf ++ offered).length := by rw [List.length_append]; omega
    obtain ⟨buf, pos, out⟩ := State.syncStep_of_enabled enabled
    rw [State.account, State.account, streamReadings_of_enabled enabled',
      stopPosition_of_enabled enabled', ← List.drop_drop, drop_nextPosition_append enabled,
      nextPosition_zero_append enabled, headReadings_append enabled, buf, pos, out,
      List.append_assoc, Nat.add_assoc]

/-! ### Running until quiescent (R77) -/

/-- `t` is where the synchronizer's steps lead from `s` before it waits. -/
inductive Settles : State → State → Prop
  | quiet {s : State} (h : s.quiescent) : Settles s s
  | step {s t : State} (enabled : 32 ≤ s.buf.length) (rest : Settles s.syncStep t) : Settles s t

theorem Settles.quiescent {s t : State} (h : Settles s t) : t.quiescent := by
  induction h with
  | quiet h => exact h
  | step _ _ ih => exact ih

theorem Settles.unique {s t t' : State} (h : Settles s t) (h' : Settles s t') : t = t' := by
  induction h with
  | quiet quiet =>
    cases h' with
    | quiet => rfl
    | step enabled => exact absurd quiet (not_lt.mpr enabled)
  | step enabled _ ih =>
    cases h' with
    | quiet quiet => exact absurd quiet (not_lt.mpr enabled)
    | step _ rest => exact ih rest

theorem Settles.account {s t : State} (h : Settles s t) (offered : List Byte) :
    t.account offered = s.account offered := by
  induction h with
  | quiet => rfl
  | step _ _ ih => rw [ih, State.account_syncStep]

/-- More bytes may arrive before or after the synchronizer has worked through those it has. -/
theorem Settles.bufAppend {s t u : State} {bytes : List Byte} (h : Settles s t)
    (h' : Settles (t.bufAppend bytes) u) : Settles (s.bufAppend bytes) u := by
  induction h with
  | quiet => exact h'
  | step enabled _ ih =>
    refine .step (by rw [State.bufAppend_buf, List.length_append]; omega) ?_
    rw [State.syncStep_bufAppend enabled]
    exact ih h'

/-- One turn of the loop of `FEED`. -/
theorem State.drain_succ (fuel : Nat) (s : State) :
    State.drain (fuel + 1) s = if s.quiescent then s else State.drain fuel s.syncStep := by
  rw [State.drain, State.syncStep]
  cases selected : syncOutcome s.buf with
  | wait => exact (if_pos ((syncOutcome_wait_iff s.buf).mp selected)).symm
  | extract =>
    obtain ⟨enabled, -⟩ := (syncOutcome_extract_iff s.buf).mp selected
    exact (if_neg (not_lt.mpr enabled)).symm
  | discard =>
    obtain ⟨enabled, -⟩ := (syncOutcome_discard_iff s.buf).mp selected
    exact (if_neg (not_lt.mpr enabled)).symm

/-- Fuel for every buffered byte lets the loop end: each step removes one at least (R78). -/
theorem settles_drain {fuel : Nat} {s : State} (enough : s.buf.length ≤ fuel) :
    Settles s (State.drain fuel s) := by
  induction fuel generalizing s with
  | zero => exact .quiet (show s.buf.length < 32 by omega)
  | succ fuel ih =>
    rw [State.drain_succ]
    split
    case isTrue quiet => exact .quiet quiet
    case isFalse busy =>
      have enabled : 32 ≤ s.buf.length := not_lt.mp busy
      have progress := (State.syncStep_progress enabled).1
      exact .step enabled (ih (by omega))

theorem settles_feed (s : State) (bytes : List Byte) :
    Settles (s.bufAppend bytes) (s.feed bytes) :=
  settles_drain (State.bufAppend_buf s bytes ▸ Nat.le_refl _)

/-! ### `FEED` (R76) -/

/-- Settles O22: the loop ends where the synchronizer waits. -/
theorem feedEndsQuiescent : Obligations.FeedEndsQuiescent := fun s bytes =>
  (settles_feed s bytes).quiescent

/-- Settles O23: the loop keeps the account, and a quiescent state has done what its account
says. -/
theorem feedFollowsTheStreamPositions : Obligations.FeedFollowsTheStreamPositions := by
  intro s bytes S t
  have settles := settles_feed s bytes
  have account := settles.account []
  rw [State.account_of_quiescent settles.quiescent] at account
  simpa [State.account, State.bufAppend] using account

/-- Settles O24: the second chunk may as well arrive before the loop works through the first. -/
theorem feedIsChunkingIndependent : Obligations.FeedIsChunkingIndependent := by
  intro s a b
  have chunks := (settles_feed s a).bufAppend (settles_feed (s.feed a) b)
  have whole := settles_feed s (a ++ b)
  have same : (s.bufAppend a).bufAppend b = s.bufAppend (a ++ b) := by
    simp [State.bufAppend]
  exact (same ▸ chunks).unique whole

/-- At a whole frame with the marker the stream emits it and goes on behind it. -/
theorem stream_of_frame {f : List Byte} (len : f.length = 32) (marker : hasMarker f = true)
    (rest : List Byte) :
    streamReadings (f ++ rest) = decodeFrame f :: streamReadings rest ∧
      stopPosition (f ++ rest) = 32 + stopPosition rest := by
  have enabled : 32 ≤ f.length := len.ge
  have enabled' : 32 ≤ (f ++ rest).length := by rw [List.length_append]; omega
  have next : nextPosition f 0 = 32 := if_pos marker
  have head : headReadings f = [decodeFrame f] := by
    rw [headReadings, if_pos marker, List.take_of_length_le len.le]
  rw [streamReadings_of_enabled enabled', stopPosition_of_enabled enabled',
    drop_nextPosition_append enabled, nextPosition_zero_append enabled,
    headReadings_append enabled, head, next, List.drop_of_length_le len.le]
  exact ⟨rfl, rfl⟩

/-- A stream of whole frames is emitted frame by frame up to its end. -/
theorem stream_of_frames {frames : List (List Byte)}
    (each : ∀ f ∈ frames, f.length = 32 ∧ hasMarker f = true) :
    streamReadings frames.flatten = frames.map decodeFrame ∧
      stopPosition frames.flatten = 32 * frames.length ∧
      frames.flatten.length = 32 * frames.length := by
  induction frames with
  | nil => exact ⟨rfl, rfl, rfl⟩
  | cons f frames ih =>
    obtain ⟨⟨len, marker⟩, others⟩ := List.forall_mem_cons.mp each
    obtain ⟨readings, stop, length⟩ := ih others
    obtain ⟨readings', stop'⟩ := stream_of_frame len marker frames.flatten
    rw [List.flatten_cons, readings', stop', readings, stop, List.length_append, length, len,
      List.length_cons]
    exact ⟨rfl, by omega, by omega⟩

/-- Settles O27, by the stream of the frames. -/
theorem alignedFramesAreAllExtracted : Obligations.AlignedFramesAreAllExtracted := by
  intro s frames empty each t
  simp only [← hasMarker_iff] at each
  obtain ⟨out, pos, buf⟩ := feedFollowsTheStreamPositions s frames.flatten
  obtain ⟨readings, stop, length⟩ := stream_of_frames each
  rw [empty, List.nil_append] at out pos buf
  exact ⟨readings ▸ out, stop ▸ pos, buf.trans (List.drop_of_length_le (by omega))⟩

/-- Settles O60: the stale bytes and the head of the new ones are the frame at the stream's head. -/
theorem staleBytesHeadTheNextSession : Obligations.StaleBytesHeadTheNextSession := by
  intro s new quiet first second enough
  have short : s.buf.length < 32 := quiet
  obtain ⟨out, -, -⟩ := feedFollowsTheStreamPositions s new
  have enabled : 32 ≤ (s.buf ++ new).length := by rw [List.length_append]; omega
  have inside : 1 < s.buf.length := (List.getElem?_eq_some_iff.mp second).1
  have marker : hasMarker (s.buf ++ new) = true := by
    rw [hasMarker_iff, List.getElem?_append_left (by omega), List.getElem?_append_left inside]
    exact ⟨first, second⟩
  have frame : (s.buf ++ new).take 32 = s.buf ++ new.take (32 - s.buf.length) := by
    rw [List.take_append, List.take_of_length_le short.le]
  rw [streamReadings_of_enabled enabled, headReadings, if_pos marker, frame] at out
  exact ⟨_, out⟩

end Sys2Proof.Machine
end

section
/-! PROOFS of the statements on the launch state, the ports that show state, and the invariant
(10_state.md). -/

namespace Sys2Proof.Machine

/-! ### The launch state (R25, R161) -/

/-- Settles O12: the launch state is written out from the table. -/
theorem resetStateHoldsTheTable : Obligations.ResetStateHoldsTheTable := fun _ =>
  ⟨rfl, rfl, rfl, rfl, rfl, fun _ =>
    ⟨rfl, rfl, fun x => by cases x <;> rfl, rfl, rfl, rfl, rfl⟩⟩

/-! ### The ports that show state (R22) -/

theorem State.rxReady_of_unbounded {s : State} (cap : s.build.bufCap = .unbounded) :
    s.rxReady = true := by
  rw [State.rxReady, cap]
  rfl

theorem State.rxReady_iff_of_atLeast32 {s : State} {n : Nat} (cap : s.build.bufCap = .atLeast32 n) :
    s.rxReady = true ↔ s.buf.length < 32 + n := by
  rw [State.rxReady, cap]
  exact decide_eq_true_iff

/-- Settles O15: the ports are a view of the state afterwards, and the extraction has written the
Reading and the average there. -/
theorem statusPortsShowTheState : Obligations.StatusPortsShowTheState := by
  refine ⟨fun s t => ⟨State.rxReady_of_unbounded, fun n => State.rxReady_iff_of_atLeast32, rfl, rfl,
    fun on => if_pos on, fun off => if_neg (by simp [off])⟩, fun s t h => ?extraction⟩
  have ran := ran_of_exec h
  refine ⟨ran.rdValid_iff.mpr rfl, ?_⟩
  rw [ran.eq_extract]
  refine ⟨rfl, fun on => ?_⟩
  have shown : (outputs s s.extract).avg = some (s.extract.retained, s.extract.avgFail) := if_pos on
  rw [shown, State.extract_retained, if_pos on]
  rfl

/-! ### The invariant -/

theorem State.resetFor_inv (b : Build) : (State.resetFor b).Inv := by
  refine ⟨?_, rfl, nofun, nofun, fun _ => rfl, rfl, Nat.le_refl 0⟩
  exact State.resetBlock_fits (State.resetFor b)

/-- Settles O56, in every build at once. -/
theorem resetSatisfiesTheInvariant : Obligations.ResetSatisfiesTheInvariant :=
  ⟨State.resetFor_inv _, State.resetFor_inv⟩

/-- `RESET` establishes the invariant: it does not speak of `rd` before the first emission. -/
theorem State.resetBlock_inv (s : State) : s.resetBlock.Inv :=
  ⟨s.resetBlock_fits, rfl, nofun, nofun, fun _ => rfl, rfl, Nat.le_refl 0⟩

/-- An extraction continues the fold with a good Reading and removes 32 bytes for it. -/
theorem State.extract_inv {s : State} (inv : s.Inv) : s.extract.Inv := by
  obtain ⟨fits, -, -, good, fold, avgFail, count⟩ := inv
  refine ⟨State.bufPop_fits s 32 fits, ?seen, ?last, ?good, ?fold, ?avgFail, ?count⟩
  case seen => simp
  case last => simp
  case good =>
    intro r emitted
    rw [State.extract_out, List.mem_append, List.mem_singleton] at emitted
    obtain earlier | rfl := emitted
    · exact good r earlier
    · rfl
  case fold =>
    intro on
    replace on : s.build.avgEnable = true := on
    rw [State.extract_retained, if_pos on, fold on, State.extract_out, List.foldl_append]
    rfl
  case avgFail => simp [updateFailed, avgFail]
  case count =>
    rw [State.extract_out, State.extract_pos, List.length_append, List.length_singleton]
    omega

/-- Every operation keeps the invariant. -/
theorem Ran.inv {i : Instr} {s t : State} (h : Ran s i t) (inv : s.Inv) : t.Inv := by
  cases h with
  | reset => exact s.resetBlock_inv
  | syncExtract => exact State.extract_inv inv
  | push b room =>
    obtain ⟨-, others⟩ := inv
    exact ⟨State.bufPush_fits s b room, others⟩
  | syncDiscard =>
    obtain ⟨fits, seen, last, good, fold, avgFail, count⟩ := inv
    exact ⟨State.bufPop_fits s 1 fits, seen, last, good, fold, avgFail, Nat.le_succ_of_le count⟩
  | _ => exact inv

end Sys2Proof.Machine
end

section
/-! PROOFS of the statements on what a step serves and single steps (00_scope.md,
30_encoding.md, 60_exceptions.md). -/

namespace Sys2Proof.Machine

/-! ### What a step serves (R60) -/

/-- The requests that remain when `p` is what is left of a cycle. -/
def PortIn.requeue (p : PortIn) (rest : List Request) : List Request :=
  if p.rxFail || p.rxValid || p.cmdReq then .cycle p :: rest else rest

/-- Every operation a step can perform, and the requests that are then left: one clause for each
event of a cycle, one for the synchronizer's turn where a cycle has no event that can act, one for a
function call, and one for an empty queue. -/
inductive Serves (s : State) : Instr → List Request → Prop
  | idle (h : s.sched = []) : Serves s (syncOutcome s.buf).row []
  | reset {p : PortIn} {rest : List Request} (h : s.sched = .cycle p :: rest)
      (rst : p.rst = true) : Serves s .reset rest
  | rxfail {p : PortIn} {rest : List Request} (h : s.sched = .cycle p :: rest)
      (running : p.rst = false) (fail : p.rxFail = true) :
      Serves s .rxfail ({ p with rxFail := false }.requeue rest)
  | push {p : PortIn} {rest : List Request} (h : s.sched = .cycle p :: rest)
      (running : p.rst = false) (noFail : p.rxFail = false) (offered : p.rxValid = true)
      (room : s.rxReady = true) :
      Serves s (.push p.rxData) ({ p with rxValid := false }.requeue rest)
  | encode {p : PortIn} {rest : List Request} (h : s.sched = .cycle p :: rest)
      (running : p.rst = false) (noFail : p.rxFail = false)
      (noTransfer : (p.rxValid && s.rxReady) = false) (request : p.cmdReq = true) :
      Serves s (decodeKind p.cmdKind) ({ p with cmdReq := false }.requeue rest)
  | turn {p : PortIn} {rest : List Request} (h : s.sched = .cycle p :: rest)
      (running : p.rst = false) (noFail : p.rxFail = false)
      (noTransfer : (p.rxValid && s.rxReady) = false) (noRequest : p.cmdReq = false) :
      Serves s (syncOutcome s.buf).row (p.requeue rest)
  | decode {input : List Byte} {rest : List Request} (h : s.sched = .decode input :: rest) :
      Serves s (decodeData input) rest
  | combine {r i : Reading} {rest : List Request} (h : s.sched = .combine r i :: rest) :
      Serves s (decodeAvg (avgSelector r i) r i) rest

/-- Every state serves something. -/
theorem exists_serves (s : State) : ∃ i rest, Serves s i rest := by
  cases h : s.sched with
  | nil => exact ⟨_, _, .idle h⟩
  | cons request rest =>
    cases request with
    | decode input => exact ⟨_, _, .decode h⟩
    | combine r i => exact ⟨_, _, .combine h⟩
    | cycle p =>
      cases rst : p.rst with
      | true => exact ⟨_, _, .reset h rst⟩
      | false =>
        cases fail : p.rxFail with
        | true => exact ⟨_, _, .rxfail h rst fail⟩
        | false =>
          cases transfer : p.rxValid && s.rxReady with
          | true =>
            obtain ⟨offered, room⟩ := Bool.and_eq_true_iff.mp transfer
            exact ⟨_, _, .push h rst fail offered room⟩
          | false =>
            cases request : p.cmdReq with
            | true => exact ⟨_, _, .encode h rst fail transfer request⟩
            | false => exact ⟨_, _, .turn h rst fail transfer request⟩

/-- The four strobes of R60, each at its bit. -/
theorem PortIn.strobes_bits (p : PortIn) (ready : Bool) :
    (p.strobes ready).getLsbD 3 = p.rst ∧ (p.strobes ready).getLsbD 2 = p.rxFail ∧
      (p.strobes ready).getLsbD 1 = (p.rxValid && ready) ∧
      (p.strobes ready).getLsbD 0 = p.cmdReq := by
  rw [PortIn.strobes]
  generalize p.rst = a, p.rxFail = b, (p.rxValid && ready) = c, p.cmdReq = d
  revert a b c d
  decide

theorem PortIn.strobes_eq_zero_iff (p : PortIn) (ready : Bool) :
    p.strobes ready = 0 ↔ p.rst = false ∧ p.rxFail = false ∧ (p.rxValid && ready) = false ∧
      p.cmdReq = false := by
  rw [PortIn.strobes]
  generalize p.rst = a, p.rxFail = b, (p.rxValid && ready) = c, p.cmdReq = d
  revert a b c d
  decide

/-- The word of a cycle decodes to the first event in it that can act, or to the synchronizer's
row. -/
theorem decode_fetch_of_cycle {s : State} {p : PortIn} {rest : List Request}
    (h : s.sched = .cycle p :: rest) :
    Sys2Proof.decode s.fetch =
      .ok (if p.rst then .reset else if p.rxFail then .rxfail
        else if p.rxValid && s.rxReady then .push p.rxData
        else if p.cmdReq then decodeKind p.cmdKind else (syncOutcome s.buf).row) := by
  obtain ⟨rst, fail, transfer, request⟩ := p.strobes_bits s.rxReady
  have word : s.fetch = if p.strobes s.rxReady = 0 then syncWord (syncSelector s.buf)
      else portWord (p.strobes s.rxReady) p.rxData p.cmdKind := by
    rw [State.fetch, h]
  rw [word]
  split
  case isTrue quiet =>
    obtain ⟨noReset, noFail, noTransfer, noRequest⟩ := (p.strobes_eq_zero_iff _).mp quiet
    simp [decode_syncWord, decodeSync_syncSelector, noReset, noFail, noTransfer, noRequest]
  case isFalse active =>
    rw [PortIn.strobes_eq_zero_iff] at active
    rw [decode_portWord, decodePort, rst, fail, transfer, request]
    split_ifs <;> simp_all

/-- What is left of a cycle once its first event is taken. -/
theorem PortIn.residue_append (p : PortIn) (ready : Bool) (rest : List Request) :
    p.residue ready ++ rest =
      if p.rst then rest
      else if p.rxFail then { p with rxFail := false }.requeue rest
      else if p.rxValid && ready then { p with rxValid := false }.requeue rest
      else { p with cmdReq := false }.requeue rest := by
  unfold PortIn.residue PortIn.requeue
  split_ifs <;> simp_all

theorem advance_of_cycle {s : State} {p : PortIn} {rest : List Request}
    (h : s.sched = .cycle p :: rest) :
    s.advance = { s with sched := p.residue s.rxReady ++ rest } := by
  rw [State.advance, h]

/-- The fetched word decodes to the served operation, which runs with the remaining requests. -/
theorem Serves.fetched {s : State} {i : Instr} {rest : List Request} (h : Serves s i rest) :
    Sys2Proof.decode s.fetch = .ok i ∧ s.advance = { s with sched := rest } := by
  cases h with
  | idle h =>
    have word : s.fetch = syncWord (syncSelector s.buf) := by rw [State.fetch, h]
    rw [word, decode_syncWord, decodeSync_syncSelector, State.advance, h]
    exact ⟨rfl, rfl⟩
  | decode h =>
    rw [State.fetch, State.advance, h]
    exact ⟨decode_dataWord _, rfl⟩
  | combine h =>
    rw [State.fetch, State.advance, h]
    exact ⟨decode_avgWord _ _, rfl⟩
  | reset h rst => simp [decode_fetch_of_cycle h, advance_of_cycle h, PortIn.residue_append, rst]
  | rxfail h running fail =>
    simp [decode_fetch_of_cycle h, advance_of_cycle h, PortIn.residue_append, running, fail]
  | push h running noFail offered room =>
    simp [decode_fetch_of_cycle h, advance_of_cycle h, PortIn.residue_append, running, noFail,
      offered, room]
  | encode h running noFail noTransfer request =>
    simp [decode_fetch_of_cycle h, advance_of_cycle h, PortIn.residue_append, running, noFail,
      noTransfer, request]
  | @turn p rest h running noFail noTransfer noRequest =>
    have same : { p with cmdReq := false } = p := by rw [← noRequest]
    have left : p.residue s.rxReady ++ rest = p.requeue rest := by
      rw [PortIn.residue_append, same]
      simp [running, noFail, noTransfer]
    simp [decode_fetch_of_cycle h, advance_of_cycle h, left, running, noFail, noTransfer, noRequest]

/-- A step performs what is served. -/
theorem Serves.step_eq {s : State} {i : Instr} {rest : List Request} (h : Serves s i rest) :
    step s = exec i { s with sched := rest } := by
  obtain ⟨word, advanced⟩ := h.fetched
  rw [step, word, advanced]

/-- A step that answers has served an operation, which ran with the remaining requests. -/
theorem exists_serves_of_step {s t : State} (h : step s = .next t) :
    ∃ i rest, Serves s i rest ∧ Ran { s with sched := rest } i t := by
  obtain ⟨i, rest, serves⟩ := exists_serves s
  exact ⟨i, rest, serves, ran_of_exec (serves.step_eq ▸ h)⟩

/-! ### The remaining requests -/

theorem pendingBytes_cons (request : Request) (rest : List Request) :
    pendingBytes (request :: rest) = request.bytes ++ pendingBytes rest := rfl

theorem pendingBytes_requeue (p : PortIn) (rest : List Request) :
    pendingBytes (p.requeue rest) = (Request.cycle p).bytes ++ pendingBytes rest := by
  unfold PortIn.requeue
  split
  · rfl
  · simp_all [Request.bytes]

/-- The work that a list of requests holds. -/
def pendingWork (sched : List Request) : Nat := (sched.map Request.work).sum

@[simp] theorem pendingWork_cons (request : Request) (rest : List Request) :
    pendingWork (request :: rest) = request.work + pendingWork rest := by
  simp [pendingWork]

theorem State.work_eq (s : State) : s.work = s.buf.length + pendingWork s.sched := rfl

theorem Request.work_pos (request : Request) : 0 < request.work := by
  cases request <;> simp [Request.work]

theorem pendingWork_requeue_le (p : PortIn) (rest : List Request) :
    pendingWork (p.requeue rest) ≤ (Request.cycle p).work + pendingWork rest := by
  unfold PortIn.requeue
  split <;> simp

theorem mem_requeue {p : PortIn} {rest : List Request} {request : Request}
    (h : request ∈ p.requeue rest) : request = .cycle p ∨ request ∈ rest := by
  unfold PortIn.requeue at h
  split at h
  · exact List.mem_cons.mp h
  · exact .inr h

/-- The byte an operation takes from the byte source. -/
def pushedBytes : Instr → List Byte
  | .push b => [b]
  | _ => []

/-- Only `PUSH` takes a byte, and the selectors of the synchronizer, the encoder and the two
functions select neither it nor `RESET`. -/
theorem row_not_port (o : SyncOutcome) : o.row ≠ .reset ∧ pushedBytes o.row = [] := by
  cases o <;> exact ⟨nofun, rfl⟩

theorem decodeKind_not_port (k : KindCode) :
    decodeKind k ≠ .reset ∧ pushedBytes (decodeKind k) = [] := by
  revert k
  decide

theorem decodeData_not_port (input : List Byte) :
    decodeData input ≠ .reset ∧ pushedBytes (decodeData input) = [] := by
  rw [decodeData]
  split_ifs <;> exact ⟨nofun, rfl⟩

theorem decodeAvg_not_port (r i : Reading) :
    decodeAvg (avgSelector r i) r i ≠ .reset ∧
      pushedBytes (decodeAvg (avgSelector r i) r i) = [] := by
  rw [decodeAvg_avgSelector]
  split_ifs <;> exact ⟨nofun, rfl⟩

/-- A step that serves a reset takes its cycle whole and leaves the requests behind it. -/
theorem Serves.of_reset {s : State} {i : Instr} {rest : List Request} (h : Serves s i rest)
    (isReset : i = .reset) : ∃ p, p.rst = true ∧ s.sched = .cycle p :: rest := by
  cases h with
  | reset h rst => exact ⟨_, rst, h⟩
  | rxfail | push => cases isReset
  | idle | turn => exact absurd isReset (row_not_port _).1
  | encode => exact absurd isReset (decodeKind_not_port _).1
  | decode => exact absurd isReset (decodeData_not_port _).1
  | combine => exact absurd isReset (decodeAvg_not_port _ _).1

/-- Outside a reset the bytes still offered are those before, but for the one that is pushed. -/
theorem Serves.pendingBytes_eq {s : State} {i : Instr} {rest : List Request} (h : Serves s i rest)
    (notReset : i ≠ .reset) : pendingBytes s.sched = pushedBytes i ++ pendingBytes rest := by
  cases h with
  | reset => exact absurd rfl notReset
  | idle h => rw [h, (row_not_port _).2]; rfl
  | rxfail h => rw [h, pendingBytes_cons, pendingBytes_requeue]; rfl
  | push h _ _ offered =>
    rw [h, pendingBytes_cons, pendingBytes_requeue, Request.bytes, if_pos offered]
    rfl
  | encode h => rw [h, pendingBytes_cons, pendingBytes_requeue, (decodeKind_not_port _).2]; rfl
  | turn h => rw [h, pendingBytes_cons, pendingBytes_requeue, (row_not_port _).2]; rfl
  | decode h => rw [h, pendingBytes_cons, (decodeData_not_port _).2]; rfl
  | combine h => rw [h, pendingBytes_cons, (decodeAvg_not_port _ _).2]; rfl

/-- Serving an event lowers the pending work, by two for a pushed byte; the requests stay the same
only in the synchronizer's own turn, with an empty queue or a full buffer. -/
theorem Serves.pendingWork_lt {s : State} {i : Instr} {rest : List Request} (h : Serves s i rest) :
    (i = (syncOutcome s.buf).row ∧ rest = s.sched ∧ (s.sched = [] ∨ 32 ≤ s.buf.length)) ∨
      pendingWork rest + (pushedBytes i).length < pendingWork s.sched := by
  cases h with
  | idle h => exact .inl ⟨rfl, h.symm, .inl h⟩
  | @reset p rest h _ =>
    rw [h, pendingWork_cons]
    exact .inr (Nat.lt_add_of_pos_left (Request.cycle p).work_pos)
  | @rxfail p rest h running fail =>
    right
    have left := pendingWork_requeue_le { p with rxFail := false } rest
    simp only [h, pendingWork_cons, Request.work, fail, Bool.toNat_true, Bool.toNat_false,
      pushedBytes, List.length_nil] at left ⊢
    omega
  | @push p rest h running noFail offered _ =>
    right
    have left := pendingWork_requeue_le { p with rxValid := false } rest
    simp only [h, pendingWork_cons, Request.work, offered, Bool.toNat_true, Bool.toNat_false,
      pushedBytes, List.length_singleton] at left ⊢
    omega
  | @encode p rest h running noFail _ request =>
    right
    have left := pendingWork_requeue_le { p with cmdReq := false } rest
    simp only [h, pendingWork_cons, Request.work, request, Bool.toNat_true, Bool.toNat_false,
      (decodeKind_not_port _).2, List.length_nil] at left ⊢
    omega
  | @turn p rest h running noFail noTransfer noRequest =>
    have left : p.requeue rest = if p.rxValid then s.sched else rest := by
      rw [PortIn.requeue, noFail, noRequest, h]
      simp
    rw [left]
    cases offered : p.rxValid with
    | true =>
      have full : s.rxReady = false := by simpa [offered] using noTransfer
      exact .inl ⟨rfl, rfl, .inr (State.full_enables_sync s full)⟩
    | false =>
      rw [h, pendingWork_cons, (row_not_port _).2]
      exact .inr (Nat.lt_add_of_pos_left (Request.cycle p).work_pos)
  | decode h =>
    rw [h, pendingWork_cons, (decodeData_not_port _).2]
    exact .inr (by simp [Request.work])
  | combine h =>
    rw [h, pendingWork_cons, (decodeAvg_not_port _ _).2]
    exact .inr (by simp [Request.work])

/-- The remaining requests were pending before, but for what is left of a cycle without reset. -/
theorem Serves.mem_rest {s : State} {i : Instr} {rest : List Request} (h : Serves s i rest)
    {request : Request} (left : request ∈ rest) :
    request ∈ s.sched ∨ ∃ p, request = .cycle p ∧ p.rst = false := by
  cases h with
  | idle => cases left
  | reset h | decode h | combine h => exact .inl (h ▸ List.mem_cons_of_mem _ left)
  | rxfail h running | push h running | encode h running | turn h running =>
    obtain rfl | old := mem_requeue left
    · exact .inr ⟨_, rfl, running⟩
    · exact .inl (h ▸ List.mem_cons_of_mem _ old)

/-! ### Single steps -/

/-- Settles O7, from what a step serves. -/
theorem stepRunsTheDecodedOperation : Obligations.StepRunsTheDecodedOperation := by
  refine ⟨fun s => ?fetches, fun s i fetched => ?serves⟩
  case fetches =>
    obtain ⟨i, rest, serves⟩ := exists_serves s
    exact ⟨i, serves.fetched.1⟩
  case serves =>
    obtain ⟨i', rest, serves⟩ := exists_serves s
    cases fetched.symm.trans serves.fetched.1
    refine ⟨decodedOperationsAreWellFormed _ _ fetched, rest, serves.step_eq, ?pushed, ?offered,
      fun isReset => serves.of_reset isReset, ?same, ?lower⟩
    case pushed =>
      rintro b rfl
      exact serves.pendingBytes_eq nofun
    case offered =>
      intro notReset notPush
      have pushed : pushedBytes i = [] := by
        cases i with
        | push b => exact absurd rfl (notPush b)
        | _ => rfl
      rw [serves.pendingBytes_eq notReset, pushed, List.nil_append]
    case same =>
      rintro rfl
      obtain ⟨own, -, -⟩ | lower := serves.pendingWork_lt
      · rw [own, decodeSync_syncSelector]
      · omega
    case lower =>
      intro changed
      obtain ⟨-, same, -⟩ | lower := serves.pendingWork_lt
      · exact absurd same changed
      · exact Nat.lt_of_le_of_lt (Nat.le_add_right _ _) lower

/-- Settles O8, strobe by strobe. -/
theorem portStrobesSelectTheirOperations : Obligations.PortStrobesSelectTheirOperations := by
  intro s p rest h
  refine ⟨fun rst => (Serves.reset h rst).step_eq, fun running fail => ?rxfail,
    fun running noFail offered room => ?push, fun running noFail noTransfer request => ?encode,
    fun running noFail noTransfer noRequest => ?turn⟩
  case rxfail => simpa [PortIn.requeue] using (Serves.rxfail h running fail).step_eq
  case push =>
    simpa [PortIn.requeue, noFail] using (Serves.push h running noFail offered room).step_eq
  case encode =>
    simpa [PortIn.requeue, noFail] using
      (Serves.encode h running noFail noTransfer request).step_eq
  case turn =>
    simpa [PortIn.requeue, noFail, noRequest, decodeSync_syncSelector, h] using
      (Serves.turn h running noFail noTransfer noRequest).step_eq

/-- Settles O9, by the three kinds of request that are no cycle. -/
theorem synchronizerAndFunctionCallsAreServed :
    Obligations.SynchronizerAndFunctionCallsAreServed := by
  intro s
  refine ⟨fun idle => ?_, fun input rest h => (Serves.decode h).step_eq,
    fun r i rest h => (Serves.combine h).step_eq⟩
  rw [step_of_sched_nil idle, decodeSync_syncSelector]

/-- The served operation runs, where the build can serve the requests. -/
theorem Serves.runs {s : State} {i : Instr} {rest : List Request} (h : Serves s i rest)
    (fit : s.requestsFit = true) : ∃ t, Ran { s with sched := rest } i t := by
  cases h with
  | idle | turn => exact ⟨_, ran_syncStep { s with sched := _ }⟩
  | reset => exact ⟨_, .reset⟩
  | rxfail => exact ⟨_, .rxfail⟩
  | push _ _ _ _ room => exact ⟨_, .push _ room⟩
  | encode =>
    obtain ⟨_, _, runs⟩ := exec_decodeKind _ { s with sched := _ }
    exact ⟨_, ran_of_exec runs⟩
  | @decode input =>
    rw [decodeData]
    split
    case isTrue selected => exact ⟨_, .decode input selected⟩
    case isFalse unselected => exact ⟨_, .decodeErr input (Bool.not_eq_true _ ▸ unselected)⟩
  | @combine r i rest h =>
    have on : s.build.avgEnable = true := by
      rw [State.requestsFit, h, List.all_cons, Bool.and_eq_true] at fit
      exact fit.1
    exact ⟨_, ran_of_exec (exec_decodeAvg (s := { s with sched := rest }) on r i)⟩

/-- Settles O10: what is served runs, and no request appears that the build could not serve. -/
theorem stepNeverStops : Obligations.StepNeverStops := by
  intro s fit
  obtain ⟨i, rest, serves⟩ := exists_serves s
  obtain ⟨t, ran⟩ := serves.runs fit
  obtain ⟨build, sched⟩ := ran.environment_unchanged
  refine ⟨t, serves.step_eq.trans ran.exec_eq, ?_⟩
  rw [State.requestsFit, build, sched, List.all_eq_true]
  intro request left
  obtain old | ⟨p, rfl, -⟩ := serves.mem_rest left
  · exact List.all_eq_true.mp fit request old
  · rfl

/-- A synchronizer step makes room in a full buffer (R37). -/
theorem State.rxReady_of_shorter {s t : State} (fits : s.bufFits = true) (build : t.build = s.build)
    (shorter : t.buf.length < s.buf.length) : t.rxReady = true := by
  rw [State.rxReady, build]
  unfold State.bufFits at fits
  split at fits
  case h_1 cap => rw [cap]; rfl
  case h_2 extra cap =>
    rw [cap]
    exact decide_eq_true (Nat.lt_of_lt_of_le shorter (of_decide_eq_true fits))

/-- Settles O16: the byte that does not fit gives the turn to the synchronizer, whose step is
enabled. -/
theorem fullBufferMakesRoomForTheOfferedByte :
    Obligations.FullBufferMakesRoomForTheOfferedByte := by
  intro s p rest h running noFail noRequest offered fits full
  obtain ⟨-, -, -, -, turn⟩ := portStrobesSelectTheirOperations s p rest h
  have steps := turn running noFail (by simp [full]) noRequest
  have ran := ran_syncStep s
  obtain ⟨build, sched⟩ := ran.environment_unchanged
  obtain ⟨shorter, -⟩ := State.syncStep_progress (State.full_enables_sync s full)
  rw [if_pos offered, decodeSync_syncSelector] at steps
  exact ⟨s.syncStep, steps.trans ran.exec_eq, sched, State.rxReady_of_shorter fits build shorter,
    shorter⟩

/-- Settles O57: the invariant does not speak of the requests, and every operation keeps it. -/
theorem stepKeepsTheInvariant : Obligations.StepKeepsTheInvariant := by
  intro s t inv h
  obtain ⟨i, rest, -, ran⟩ := exists_serves_of_step h
  exact ran.inv inv

end Sys2Proof.Machine
end

section
/-! PROOFS of the statements on the account of the stream, the work left and whole runs
(20_memory.md, 40_sync.md). -/

namespace Sys2Proof.Machine

/-! ### The account of the stream and the work left -/

/-- An operation other than `RESET` keeps the account, a pushed byte being offered before. -/
theorem Ran.account {i : Instr} {s t : State} (h : Ran s i t) (notReset : i ≠ .reset)
    (offered : List Byte) : t.account offered = s.account (pushedBytes i ++ offered) := by
  have sync := s.account_syncStep offered
  rw [State.syncStep] at sync
  cases h with
  | reset => exact absurd rfl notReset
  | push b => simp [State.account, pushedBytes]
  | syncExtract selected => rw [selected] at sync; exact sync
  | syncDiscard selected => rw [selected] at sync; exact sync
  | _ => rfl

/-- A step serves a reset or keeps the account. -/
theorem step_account {s t : State} (h : step s = .next t) :
    (∃ p rest, s.sched = .cycle p :: rest ∧ p.rst = true ∧
      t.sched = rest ∧ t.buf = [] ∧ t.out = [] ∧ t.pos = 0) ∨
    t.account (pendingBytes t.sched) = s.account (pendingBytes s.sched) := by
  obtain ⟨i, rest, serves, ran⟩ := exists_serves_of_step h
  obtain ⟨-, sched⟩ := ran.environment_unchanged
  by_cases isReset : i = .reset
  · obtain ⟨p, rst, head⟩ := serves.of_reset isReset
    subst isReset
    rw [ran.eq_resetBlock]
    exact .inl ⟨p, rest, head, rst, rfl, rfl, rfl, rfl⟩
  · right
    rw [serves.pendingBytes_eq isReset, sched, ran.account isReset]
    rfl

/-- Settles O58: the account is the three things the statement names. -/
theorem stepKeepsTheStreamAccount : Obligations.StepKeepsTheStreamAccount := by
  intro s t h before after
  refine (step_account h).imp_right fun account => ?_
  simpa [State.account] using account

/-- An operation lengthens the buffer by what it pushes at most. -/
theorem Ran.buf_length_le {i : Instr} {s t : State} (h : Ran s i t) :
    t.buf.length ≤ s.buf.length + (pushedBytes i).length := by
  cases h <;> simp [pushedBytes]

theorem Ran.unique {i : Instr} {s t t' : State} (h : Ran s i t) (h' : Ran s i t') : t = t' := by
  cases h.exec_eq.symm.trans h'.exec_eq
  rfl

/-- Settles O59: serving an event lowers the pending work by more than it lengthens the buffer, and
the synchronizer's own turn shortens the buffer. -/
theorem stepLowersTheWorkThatIsLeft : Obligations.StepLowersTheWorkThatIsLeft := by
  intro s t h
  refine ⟨fun busy => ?lower, fun idle quiet => ?fixed⟩
  case fixed =>
    cases h.symm.trans ((waitChangesNothing s quiet).2 idle)
    rfl
  case lower =>
    obtain ⟨i, rest, serves, ran⟩ := exists_serves_of_step h
    obtain ⟨-, sched⟩ := ran.environment_unchanged
    rw [State.work_eq, State.work_eq, sched]
    obtain ⟨rfl, rfl, idle⟩ | lower := serves.pendingWork_lt
    · have enabled : 32 ≤ s.buf.length := by
        obtain empty | full := idle
        · exact busy.resolve_left (not_not.mpr empty)
        · exact full
      rw [ran.unique (ran_syncStep s)]
      exact Nat.add_lt_add_right (State.syncStep_progress enabled).1 _
    · have longer := ran.buf_length_le
      dsimp only at longer ⊢
      omega

/-! ### Runs -/

theorem run_succ_of_step {s t : State} (h : step s = .next t) (k : Nat) :
    core.run (k + 1) s = core.run k t := by
  have first : core.step s = .next t := h
  simp only [Host.Core.run]
  rw [first]

theorem step_of_run_succ {s t : State} {k : Nat} (h : core.run (k + 1) s = .next t) :
    ∃ u, step s = .next u ∧ core.run k u = .next t := by
  simp only [Host.Core.run] at h
  cases first : core.step s with
  | next u =>
    rw [first] at h
    exact ⟨u, first, h⟩
  | fault r => cases r
  | refused r => rw [first] at h; cases h

/-- With nothing pending a step is the synchronizer's, and nothing is pending afterwards. -/
theorem step_of_idle {s : State} (idle : s.sched = []) :
    step s = .next s.syncStep ∧ s.syncStep.sched = [] := by
  have ran := ran_syncStep s
  exact ⟨(step_of_sched_nil idle).trans ran.exec_eq, ran.environment_unchanged.2.trans idle⟩

/-- With nothing pending, `n` steps are enough for `n` bytes beyond the 31 that may stay. -/
theorem run_quiesces_of_idle {n : Nat} {s : State} (idle : s.sched = [])
    (enough : s.buf.length ≤ n + 31) :
    ∃ t, core.run n s = .next t ∧ t.quiescent ∧ t.sched = [] := by
  induction n generalizing s with
  | zero => exact ⟨s, rfl, Nat.lt_succ_of_le enough, idle⟩
  | succ n ih =>
    obtain ⟨steps, idle'⟩ := step_of_idle idle
    rw [run_succ_of_step steps]
    refine ih idle' ?_
    by_cases quiet : s.quiescent
    · rw [State.syncStep_of_quiescent quiet]
      exact Nat.le_trans (Nat.le_of_lt_succ quiet) (Nat.le_add_left _ _)
    · have := (State.syncStep_progress (not_lt.mp quiet)).1
      omega

/-- Settles O21: as long as the synchronizer's step is enabled it removes a byte. -/
theorem synchronizerLoopTerminates : Obligations.SynchronizerLoopTerminates := by
  intro s idle enabled
  obtain ⟨steps, idle'⟩ := step_of_idle idle
  obtain ⟨shorter, further⟩ := State.syncStep_progress enabled
  obtain ⟨t, runs, quiet, served⟩ :=
    run_quiesces_of_idle (n := s.buf.length - 31) idle (by omega)
  exact ⟨⟨_, steps, idle', shorter, further⟩, _, t, Nat.le_refl _, runs, quiet, served⟩

/-- A run in which nothing is left to do stays where it is. -/
theorem run_of_done {s : State} (idle : s.sched = []) (quiet : s.quiescent) (k : Nat) :
    core.run k s = .next s := by
  induction k with
  | zero => rfl
  | succ k ih => rw [run_succ_of_step ((waitChangesNothing s quiet).2 idle), ih]

/-- As many steps as there is work left serve everything. -/
theorem run_serves_all {n : Nat} {s : State} (fit : s.requestsFit = true) (enough : s.work ≤ n) :
    ∃ t, core.run n s = .next t ∧ t.sched = [] ∧ t.quiescent := by
  induction n generalizing s with
  | zero =>
    rw [State.work_eq] at enough
    have idle : s.sched = [] := by
      cases h : s.sched with
      | nil => rfl
      | cons request rest =>
        have := request.work_pos
        rw [h, pendingWork_cons] at enough
        omega
    exact ⟨s, rfl, idle, show s.buf.length < 32 by omega⟩
  | succ n ih =>
    by_cases busy : s.sched ≠ [] ∨ 32 ≤ s.buf.length
    · obtain ⟨t, steps, fit'⟩ := stepNeverStops s fit
      have lower := (stepLowersTheWorkThatIsLeft s t steps).1 busy
      rw [run_succ_of_step steps]
      exact ih fit' (by omega)
    · rw [not_or, not_not, not_le] at busy
      obtain ⟨idle, quiet⟩ := busy
      exact ⟨s, run_of_done idle quiet _, idle, quiet⟩

/-- Settles O26, with the work left as the number of steps. -/
theorem everyRunIsServedAndQuiesces : Obligations.EveryRunIsServedAndQuiesces := fun _ fit =>
  run_serves_all fit (Nat.le_refl _)

/-- A step without a reset among the requests leaves none among them. -/
theorem step_keepsRunning {s t : State} (running : s.sched.all Request.keepsRunning = true)
    (h : step s = .next t) : t.sched.all Request.keepsRunning = true := by
  obtain ⟨i, rest, serves, ran⟩ := exists_serves_of_step h
  rw [ran.environment_unchanged.2, List.all_eq_true]
  intro request left
  obtain old | ⟨p, rfl, noReset⟩ := serves.mem_rest left
  · exact List.all_eq_true.mp running request old
  · simp [Request.keepsRunning, noReset]

/-- A run without a reset keeps the account. -/
theorem run_account {n : Nat} {s t : State} (running : s.sched.all Request.keepsRunning = true)
    (h : core.run n s = .next t) :
    t.account (pendingBytes t.sched) = s.account (pendingBytes s.sched) := by
  induction n generalizing s with
  | zero => cases h; rfl
  | succ n ih =>
    obtain ⟨u, steps, runs⟩ := step_of_run_succ h
    rw [ih (step_keepsRunning running steps) runs]
    obtain ⟨p, rest, head, rst, -⟩ | account := step_account steps
    · simp [head, Request.keepsRunning, rst] at running
    · exact account

/-- Settles O25: the run keeps the account, and its last state has done what its account says. -/
theorem schedulingAndCapacityDoNotChangeTheReadings :
    Obligations.SchedulingAndCapacityDoNotChangeTheReadings := by
  intro s t n running h served quiet S
  have account := run_account running h
  rw [served, show pendingBytes [] = [] from rfl, State.account_of_quiescent quiet] at account
  simpa [State.account] using account

end Sys2Proof.Machine
end
